-- ==== Sys2Proof/Word.lean ====
section
/-! DEFINITION. The two word types of the machine (R6): a byte is 8 bits; a register pair, the
program counter, the stack pointer and an address are 16 bits. -/
namespace Sys2Proof

/-- An 8-bit byte: a register, a memory cell, an instruction byte (R6). -/
abbrev Byte := BitVec 8

/-- A 16-bit word: a register pair, pc, SP, an address (R6). -/
abbrev Word := BitVec 16

end Sys2Proof
end

