-- ==== Sys2Proof/Config.lean ====
section
/-! DEFINITION. The named parameters of R7 that a model takes as configuration, with the values
the spec chooses, and what a byte of memory that nothing has written reads as. -/
namespace Sys2Proof

/-- The parameters of R7 that change what the core does. Of the others, `CYC` is
`Machine.CycleTable`, `INIT_MEM` an argument of `Machine.State.resetWith` and `EXT` of
`Machine.stepExt`. -/
structure Config where
  /-- `P_RESET_PC`: pc after reset (R7, R351). -/
  resetPc : Word
  /-- `P_RESET_SP`: SP after reset (R7, R38). -/
  resetSp : Word
  /-- `P_IRQ_DISPATCH`: whether interrupts are serviced at step boundaries (R317, R328). -/
  irqDispatch : Bool
  /-- `P_STOP_LEN`: the number of bytes STOP occupies, its opcode byte included (R7, R297). -/
  stopLen : Nat
  deriving DecidableEq, Repr

namespace Config

/-- The values R7 gives: 0x0000, 0xFFFE, true, 2 (the spec's decisions D22, D19 and D21; log 3). -/
def default : Config :=
  { resetPc := 0x0000, resetSp := 0xFFFE, irqDispatch := true, stopLen := 2 }

/-- What an address that memory does not list reads as. DESIGN CHOICE (log 1, unsafe): the spec
leaves the bytes that nothing has written open (U4, R38). -/
def unlistedByte : Byte := 0x00

end Config

end Sys2Proof
end

