-- ==== Sys2Proof/Machine/Bits.lean ====
section
/-! DEFINITION. The bit-field, byte-order and sign-extension helpers of the spec's notation (R8). -/
namespace Sys2Proof.Machine

/-- `w[15:8]`, the high byte of a word (R8). -/
def hi (w : Word) : Byte := w.extractLsb' 8 8

/-- `w[7:0]`, the low byte of a word (R8). -/
def lo (w : Word) : Byte := w.extractLsb' 0 8

/-- `{h, l}`, the word with high byte `h` and low byte `l` (R8). -/
def pair (h l : Byte) : Word := h ++ l

/-- `sext_16(b)`: the byte as a signed number, written as a word (R8). -/
def sext16 (b : Byte) : Word := b.signExtend 16

/-- `zext_16(b)`: the byte as a word (R8). -/
def zext16 (b : Byte) : Word := b.setWidth 16

/-- The byte with bit `b` alone set, `1 << b` (R253). -/
def bitMask (b : Fin 8) : Byte := 1#8 <<< b.val

end Sys2Proof.Machine
end

