-- ==== Sys2Proof/Syntax.lean ====
section
/-! DEFINITION. The instruction set as syntax: the operand names of R86 and one constructor of
`Instr` per row of spec/opcode_table.json (R98). An operand byte or word an instruction carries is
the constructor's argument: d8, d16, a16, a8, e8 of R85. -/
namespace Sys2Proof

/-- The seven registers an 8-bit operand can name, in the order of their codes (R86); code 6 is
(HL), which is no register. -/
inductive Reg8 where
  | b | c | d | e | h | l | a
  deriving DecidableEq, Repr

/-- The eight 8-bit operand positions: a register, or the memory byte at HL (R86). -/
inductive Operand8 where
  | reg (r : Reg8)
  | memHl
  deriving DecidableEq, Repr

/-- The 16-bit registers of field `r16` (R86). -/
inductive Reg16 where
  | bc | de | hl | sp
  deriving DecidableEq, Repr

/-- The register pairs of field `r16stk`, which PUSH and POP name (R86). -/
inductive RegStk where
  | bc | de | hl | af
  deriving DecidableEq, Repr

/-- The conditions NZ, Z, NC, C (R86, R265). -/
inductive Cond where
  | nz | z | nc | c
  deriving DecidableEq, Repr

/-- The ALU operations, in the order of their codes (R86). -/
inductive AluOp where
  | add | adc | sub | sbc | and | xor | or | cp
  deriving DecidableEq, Repr

/-- The rotates, the shifts and SWAP, in the order of their codes (R86). -/
inductive ShiftOp where
  | rlc | rrc | rl | rr | sla | sra | swap | srl
  deriving DecidableEq, Repr

/-- The four flags of F (R27). -/
inductive Flag where
  | z | n | h | c
  deriving DecidableEq, Repr

/-- The instructions: one constructor per row of spec/opcode_table.json, in the table's order. -/
inductive Instr where
  /-- `NOP`, 00 (R291). -/
  | nop
  /-- `LD BC,d16`, 01 (R143). -/
  | ldBcD16 (d16 : Word)
  /-- `LD (BC),A`, 02 (R118). -/
  | ldMBcA
  /-- `INC BC`, 03 (R203). -/
  | incBc
  /-- `INC B`, 04 (R189). -/
  | incB
  /-- `DEC B`, 05 (R191). -/
  | decB
  /-- `LD B,d8`, 06 (R112). -/
  | ldBD8 (d8 : Byte)
  /-- `RLCA`, 07 (R216). -/
  | rlca
  /-- `LD (a16),HL`, 08 (R146). -/
  | ldMA16Hl (a16 : Word)
  /-- `ADD HL,BC`, 09 (R201). -/
  | addHlBc
  /-- `LD A,(BC)`, 0A (R116). -/
  | ldAMBc
  /-- `DEC BC`, 0B (R204). -/
  | decBc
  /-- `INC C`, 0C (R189). -/
  | incC
  /-- `DEC C`, 0D (R191). -/
  | decC
  /-- `LD C,d8`, 0E (R112). -/
  | ldCD8 (d8 : Byte)
  /-- `RRCA`, 0F (R218). -/
  | rrca
  /-- `STOP`, 10 (R297). -/
  | stop
  /-- `LD DE,d16`, 11 (R143). -/
  | ldDeD16 (d16 : Word)
  /-- `LD (DE),A`, 12 (R119). -/
  | ldMDeA
  /-- `INC DE`, 13 (R203). -/
  | incDe
  /-- `INC D`, 14 (R189). -/
  | incD
  /-- `DEC D`, 15 (R191). -/
  | decD
  /-- `LD D,d8`, 16 (R112). -/
  | ldDD8 (d8 : Byte)
  /-- `RLA`, 17 (R217). -/
  | rla
  /-- `JR e8`, 18 (R269). -/
  | jrE8 (e8 : Byte)
  /-- `ADD HL,DE`, 19 (R201). -/
  | addHlDe
  /-- `LD A,(DE)`, 1A (R117). -/
  | ldAMDe
  /-- `DEC DE`, 1B (R204). -/
  | decDe
  /-- `INC E`, 1C (R189). -/
  | incE
  /-- `DEC E`, 1D (R191). -/
  | decE
  /-- `LD E,d8`, 1E (R112). -/
  | ldED8 (d8 : Byte)
  /-- `RRA`, 1F (R219). -/
  | rra
  /-- `JR NZ,e8`, 20 (R270). -/
  | jrNzE8 (e8 : Byte)
  /-- `LD HL,d16`, 21 (R143). -/
  | ldHlD16 (d16 : Word)
  /-- `LD (HL+),A`, 22 (R126). -/
  | ldMHlIncA
  /-- `INC HL`, 23 (R203). -/
  | incHl
  /-- `INC H`, 24 (R189). -/
  | incH
  /-- `DEC H`, 25 (R191). -/
  | decH
  /-- `LD H,d8`, 26 (R112). -/
  | ldHD8 (d8 : Byte)
  /-- `DAA`, 27 (R292). -/
  | daa
  /-- `JR Z,e8`, 28 (R270). -/
  | jrZE8 (e8 : Byte)
  /-- `ADD HL,HL`, 29 (R201). -/
  | addHlHl
  /-- `LD A,(HL+)`, 2A (R127). -/
  | ldAMHlInc
  /-- `DEC HL`, 2B (R204). -/
  | decHl
  /-- `INC L`, 2C (R189). -/
  | incL
  /-- `DEC L`, 2D (R191). -/
  | decL
  /-- `LD L,d8`, 2E (R112). -/
  | ldLD8 (d8 : Byte)
  /-- `CPL`, 2F (R293). -/
  | cpl
  /-- `JR NC,e8`, 30 (R270). -/
  | jrNcE8 (e8 : Byte)
  /-- `LD SP,d16`, 31 (R143). -/
  | ldSpD16 (d16 : Word)
  /-- `LD (HL-),A`, 32 (R128). -/
  | ldMHlDecA
  /-- `INC SP`, 33 (R203). -/
  | incSp
  /-- `INC (HL)`, 34 (R190). -/
  | incMHl
  /-- `DEC (HL)`, 35 (R192). -/
  | decMHl
  /-- `LD (HL),d8`, 36 (R115). -/
  | ldMHlD8 (d8 : Byte)
  /-- `SCF`, 37 (R295). -/
  | scf
  /-- `JR C,e8`, 38 (R270). -/
  | jrCE8 (e8 : Byte)
  /-- `ADD HL,SP`, 39 (R201). -/
  | addHlSp
  /-- `LD A,(HL-)`, 3A (R129). -/
  | ldAMHlDec
  /-- `DEC SP`, 3B (R204). -/
  | decSp
  /-- `INC A`, 3C (R189). -/
  | incA
  /-- `DEC A`, 3D (R191). -/
  | decA
  /-- `LD A,d8`, 3E (R112). -/
  | ldAD8 (d8 : Byte)
  /-- `CCF`, 3F (R294). -/
  | ccf
  /-- `LD B,B`, 40 (R111). -/
  | ldBB
  /-- `LD B,C`, 41 (R111). -/
  | ldBC
  /-- `LD B,D`, 42 (R111). -/
  | ldBD
  /-- `LD B,E`, 43 (R111). -/
  | ldBE
  /-- `LD B,H`, 44 (R111). -/
  | ldBH
  /-- `LD B,L`, 45 (R111). -/
  | ldBL
  /-- `LD B,(HL)`, 46 (R113). -/
  | ldBMHl
  /-- `LD B,A`, 47 (R111). -/
  | ldBA
  /-- `LD C,B`, 48 (R111). -/
  | ldCB
  /-- `LD C,C`, 49 (R111). -/
  | ldCC
  /-- `LD C,D`, 4A (R111). -/
  | ldCD
  /-- `LD C,E`, 4B (R111). -/
  | ldCE
  /-- `LD C,H`, 4C (R111). -/
  | ldCH
  /-- `LD C,L`, 4D (R111). -/
  | ldCL
  /-- `LD C,(HL)`, 4E (R113). -/
  | ldCMHl
  /-- `LD C,A`, 4F (R111). -/
  | ldCA
  /-- `LD D,B`, 50 (R111). -/
  | ldDB
  /-- `LD D,C`, 51 (R111). -/
  | ldDC
  /-- `LD D,D`, 52 (R111). -/
  | ldDD
  /-- `LD D,E`, 53 (R111). -/
  | ldDE
  /-- `LD D,H`, 54 (R111). -/
  | ldDH
  /-- `LD D,L`, 55 (R111). -/
  | ldDL
  /-- `LD D,(HL)`, 56 (R113). -/
  | ldDMHl
  /-- `LD D,A`, 57 (R111). -/
  | ldDA
  /-- `LD E,B`, 58 (R111). -/
  | ldEB
  /-- `LD E,C`, 59 (R111). -/
  | ldEC
  /-- `LD E,D`, 5A (R111). -/
  | ldED
  /-- `LD E,E`, 5B (R111). -/
  | ldEE
  /-- `LD E,H`, 5C (R111). -/
  | ldEH
  /-- `LD E,L`, 5D (R111). -/
  | ldEL
  /-- `LD E,(HL)`, 5E (R113). -/
  | ldEMHl
  /-- `LD E,A`, 5F (R111). -/
  | ldEA
  /-- `LD H,B`, 60 (R111). -/
  | ldHB
  /-- `LD H,C`, 61 (R111). -/
  | ldHC
  /-- `LD H,D`, 62 (R111). -/
  | ldHD
  /-- `LD H,E`, 63 (R111). -/
  | ldHE
  /-- `LD H,H`, 64 (R111). -/
  | ldHH
  /-- `LD H,L`, 65 (R111). -/
  | ldHL
  /-- `LD H,(HL)`, 66 (R113). -/
  | ldHMHl
  /-- `LD H,A`, 67 (R111). -/
  | ldHA
  /-- `LD L,B`, 68 (R111). -/
  | ldLB
  /-- `LD L,C`, 69 (R111). -/
  | ldLC
  /-- `LD L,D`, 6A (R111). -/
  | ldLD
  /-- `LD L,E`, 6B (R111). -/
  | ldLE
  /-- `LD L,H`, 6C (R111). -/
  | ldLH
  /-- `LD L,L`, 6D (R111). -/
  | ldLL
  /-- `LD L,(HL)`, 6E (R113). -/
  | ldLMHl
  /-- `LD L,A`, 6F (R111). -/
  | ldLA
  /-- `LD (HL),B`, 70 (R114). -/
  | ldMHlB
  /-- `LD (HL),C`, 71 (R114). -/
  | ldMHlC
  /-- `LD (HL),D`, 72 (R114). -/
  | ldMHlD
  /-- `LD (HL),E`, 73 (R114). -/
  | ldMHlE
  /-- `LD (HL),H`, 74 (R114). -/
  | ldMHlH
  /-- `LD (HL),L`, 75 (R114). -/
  | ldMHlL
  /-- `HALT`, 76 (R296). -/
  | halt
  /-- `LD (HL),A`, 77 (R114). -/
  | ldMHlA
  /-- `LD A,B`, 78 (R111). -/
  | ldAB
  /-- `LD A,C`, 79 (R111). -/
  | ldAC
  /-- `LD A,D`, 7A (R111). -/
  | ldAD
  /-- `LD A,E`, 7B (R111). -/
  | ldAE
  /-- `LD A,H`, 7C (R111). -/
  | ldAH
  /-- `LD A,L`, 7D (R111). -/
  | ldAL
  /-- `LD A,(HL)`, 7E (R113). -/
  | ldAMHl
  /-- `LD A,A`, 7F (R111). -/
  | ldAA
  /-- `ADD A,B`, 80 (R165). -/
  | addAB
  /-- `ADD A,C`, 81 (R165). -/
  | addAC
  /-- `ADD A,D`, 82 (R165). -/
  | addAD
  /-- `ADD A,E`, 83 (R165). -/
  | addAE
  /-- `ADD A,H`, 84 (R165). -/
  | addAH
  /-- `ADD A,L`, 85 (R165). -/
  | addAL
  /-- `ADD A,(HL)`, 86 (R166). -/
  | addAMHl
  /-- `ADD A,A`, 87 (R165). -/
  | addAA
  /-- `ADC A,B`, 88 (R168). -/
  | adcAB
  /-- `ADC A,C`, 89 (R168). -/
  | adcAC
  /-- `ADC A,D`, 8A (R168). -/
  | adcAD
  /-- `ADC A,E`, 8B (R168). -/
  | adcAE
  /-- `ADC A,H`, 8C (R168). -/
  | adcAH
  /-- `ADC A,L`, 8D (R168). -/
  | adcAL
  /-- `ADC A,(HL)`, 8E (R169). -/
  | adcAMHl
  /-- `ADC A,A`, 8F (R168). -/
  | adcAA
  /-- `SUB A,B`, 90 (R171). -/
  | subAB
  /-- `SUB A,C`, 91 (R171). -/
  | subAC
  /-- `SUB A,D`, 92 (R171). -/
  | subAD
  /-- `SUB A,E`, 93 (R171). -/
  | subAE
  /-- `SUB A,H`, 94 (R171). -/
  | subAH
  /-- `SUB A,L`, 95 (R171). -/
  | subAL
  /-- `SUB A,(HL)`, 96 (R172). -/
  | subAMHl
  /-- `SUB A,A`, 97 (R171). -/
  | subAA
  /-- `SBC A,B`, 98 (R174). -/
  | sbcAB
  /-- `SBC A,C`, 99 (R174). -/
  | sbcAC
  /-- `SBC A,D`, 9A (R174). -/
  | sbcAD
  /-- `SBC A,E`, 9B (R174). -/
  | sbcAE
  /-- `SBC A,H`, 9C (R174). -/
  | sbcAH
  /-- `SBC A,L`, 9D (R174). -/
  | sbcAL
  /-- `SBC A,(HL)`, 9E (R175). -/
  | sbcAMHl
  /-- `SBC A,A`, 9F (R174). -/
  | sbcAA
  /-- `AND A,B`, A0 (R177). -/
  | andAB
  /-- `AND A,C`, A1 (R177). -/
  | andAC
  /-- `AND A,D`, A2 (R177). -/
  | andAD
  /-- `AND A,E`, A3 (R177). -/
  | andAE
  /-- `AND A,H`, A4 (R177). -/
  | andAH
  /-- `AND A,L`, A5 (R177). -/
  | andAL
  /-- `AND A,(HL)`, A6 (R178). -/
  | andAMHl
  /-- `AND A,A`, A7 (R177). -/
  | andAA
  /-- `XOR A,B`, A8 (R183). -/
  | xorAB
  /-- `XOR A,C`, A9 (R183). -/
  | xorAC
  /-- `XOR A,D`, AA (R183). -/
  | xorAD
  /-- `XOR A,E`, AB (R183). -/
  | xorAE
  /-- `XOR A,H`, AC (R183). -/
  | xorAH
  /-- `XOR A,L`, AD (R183). -/
  | xorAL
  /-- `XOR A,(HL)`, AE (R184). -/
  | xorAMHl
  /-- `XOR A,A`, AF (R183). -/
  | xorAA
  /-- `OR A,B`, B0 (R180). -/
  | orAB
  /-- `OR A,C`, B1 (R180). -/
  | orAC
  /-- `OR A,D`, B2 (R180). -/
  | orAD
  /-- `OR A,E`, B3 (R180). -/
  | orAE
  /-- `OR A,H`, B4 (R180). -/
  | orAH
  /-- `OR A,L`, B5 (R180). -/
  | orAL
  /-- `OR A,(HL)`, B6 (R181). -/
  | orAMHl
  /-- `OR A,A`, B7 (R180). -/
  | orAA
  /-- `CP A,B`, B8 (R186). -/
  | cpAB
  /-- `CP A,C`, B9 (R186). -/
  | cpAC
  /-- `CP A,D`, BA (R186). -/
  | cpAD
  /-- `CP A,E`, BB (R186). -/
  | cpAE
  /-- `CP A,H`, BC (R186). -/
  | cpAH
  /-- `CP A,L`, BD (R186). -/
  | cpAL
  /-- `CP A,(HL)`, BE (R187). -/
  | cpAMHl
  /-- `CP A,A`, BF (R186). -/
  | cpAA
  /-- `RET NZ`, C0 (R275). -/
  | retNz
  /-- `POP BC`, C1 (R148). -/
  | popBc
  /-- `JP NZ,a16`, C2 (R267). -/
  | jpNzA16 (a16 : Word)
  /-- `JP a16`, C3 (R266). -/
  | jpA16 (a16 : Word)
  /-- `CALL NZ,a16`, C4 (R272). -/
  | callNzA16 (a16 : Word)
  /-- `PUSH BC`, C5 (R147). -/
  | pushBc
  /-- `ADD A,d8`, C6 (R167). -/
  | addAD8 (d8 : Byte)
  /-- `RST 0x00`, C7 (R273). -/
  | rst00
  /-- `RET Z`, C8 (R275). -/
  | retZ
  /-- `RET`, C9 (R274). -/
  | ret
  /-- `JP Z,a16`, CA (R267). -/
  | jpZA16 (a16 : Word)
  /-- `PREFIX CB`, CB (R300). -/
  | prefixCb
  /-- `CALL Z,a16`, CC (R272). -/
  | callZA16 (a16 : Word)
  /-- `CALL a16`, CD (R271). -/
  | callA16 (a16 : Word)
  /-- `ADC A,d8`, CE (R170). -/
  | adcAD8 (d8 : Byte)
  /-- `RST 0x08`, CF (R273). -/
  | rst08
  /-- `RET NC`, D0 (R275). -/
  | retNc
  /-- `POP DE`, D1 (R148). -/
  | popDe
  /-- `JP NC,a16`, D2 (R267). -/
  | jpNcA16 (a16 : Word)
  /-- `CALL NC,a16`, D4 (R272). -/
  | callNcA16 (a16 : Word)
  /-- `PUSH DE`, D5 (R147). -/
  | pushDe
  /-- `SUB A,d8`, D6 (R173). -/
  | subAD8 (d8 : Byte)
  /-- `RST 0x10`, D7 (R273). -/
  | rst10
  /-- `RET C`, D8 (R275). -/
  | retC
  /-- `RETI`, D9 (R276). -/
  | reti
  /-- `JP C,a16`, DA (R267). -/
  | jpCA16 (a16 : Word)
  /-- `CALL C,a16`, DC (R272). -/
  | callCA16 (a16 : Word)
  /-- `SBC A,d8`, DE (R176). -/
  | sbcAD8 (d8 : Byte)
  /-- `RST 0x18`, DF (R273). -/
  | rst18
  /-- `LDH (a8),A`, E0 (R125). -/
  | ldhMA8A (a8 : Byte)
  /-- `POP HL`, E1 (R148). -/
  | popHl
  /-- `LDH (C),A`, E2 (R123). -/
  | ldhMCA
  /-- `PUSH HL`, E5 (R147). -/
  | pushHl
  /-- `AND A,d8`, E6 (R179). -/
  | andAD8 (d8 : Byte)
  /-- `RST 0x20`, E7 (R273). -/
  | rst20
  /-- `ADD SP,e8`, E8 (R202). -/
  | addSpE8 (e8 : Byte)
  /-- `JP (HL)`, E9 (R268). -/
  | jpHl
  /-- `LD (a16),A`, EA (R121). -/
  | ldMA16A (a16 : Word)
  /-- `XOR A,d8`, EE (R185). -/
  | xorAD8 (d8 : Byte)
  /-- `RST 0x28`, EF (R273). -/
  | rst28
  /-- `LDH A,(a8)`, F0 (R124). -/
  | ldhAMA8 (a8 : Byte)
  /-- `POP AF`, F1 (R149). -/
  | popAf
  /-- `LDH A,(C)`, F2 (R122). -/
  | ldhAMC
  /-- `DI`, F3 (R298). -/
  | di
  /-- `PUSH AF`, F5 (R147). -/
  | pushAf
  /-- `OR A,d8`, F6 (R182). -/
  | orAD8 (d8 : Byte)
  /-- `RST 0x30`, F7 (R273). -/
  | rst30
  /-- `LD HL,SP+e8`, F8 (R145). -/
  | ldHlSpE8 (e8 : Byte)
  /-- `LD SP,HL`, F9 (R144). -/
  | ldSpHl
  /-- `LD A,(a16)`, FA (R120). -/
  | ldAMA16 (a16 : Word)
  /-- `EI`, FB (R299). -/
  | ei
  /-- `CP A,d8`, FE (R188). -/
  | cpAD8 (d8 : Byte)
  /-- `RST 0x38`, FF (R273). -/
  | rst38
  /-- `RLC B`, CB 00 (R220). -/
  | rlcB
  /-- `RLC C`, CB 01 (R220). -/
  | rlcC
  /-- `RLC D`, CB 02 (R220). -/
  | rlcD
  /-- `RLC E`, CB 03 (R220). -/
  | rlcE
  /-- `RLC H`, CB 04 (R220). -/
  | rlcH
  /-- `RLC L`, CB 05 (R220). -/
  | rlcL
  /-- `RLC (HL)`, CB 06 (R221). -/
  | rlcMHl
  /-- `RLC A`, CB 07 (R220). -/
  | rlcA
  /-- `RRC B`, CB 08 (R224). -/
  | rrcB
  /-- `RRC C`, CB 09 (R224). -/
  | rrcC
  /-- `RRC D`, CB 0A (R224). -/
  | rrcD
  /-- `RRC E`, CB 0B (R224). -/
  | rrcE
  /-- `RRC H`, CB 0C (R224). -/
  | rrcH
  /-- `RRC L`, CB 0D (R224). -/
  | rrcL
  /-- `RRC (HL)`, CB 0E (R225). -/
  | rrcMHl
  /-- `RRC A`, CB 0F (R224). -/
  | rrcA
  /-- `RL B`, CB 10 (R222). -/
  | rlB
  /-- `RL C`, CB 11 (R222). -/
  | rlC
  /-- `RL D`, CB 12 (R222). -/
  | rlD
  /-- `RL E`, CB 13 (R222). -/
  | rlE
  /-- `RL H`, CB 14 (R222). -/
  | rlH
  /-- `RL L`, CB 15 (R222). -/
  | rlL
  /-- `RL (HL)`, CB 16 (R223). -/
  | rlMHl
  /-- `RL A`, CB 17 (R222). -/
  | rlA
  /-- `RR B`, CB 18 (R226). -/
  | rrB
  /-- `RR C`, CB 19 (R226). -/
  | rrC
  /-- `RR D`, CB 1A (R226). -/
  | rrD
  /-- `RR E`, CB 1B (R226). -/
  | rrE
  /-- `RR H`, CB 1C (R226). -/
  | rrH
  /-- `RR L`, CB 1D (R226). -/
  | rrL
  /-- `RR (HL)`, CB 1E (R227). -/
  | rrMHl
  /-- `RR A`, CB 1F (R226). -/
  | rrA
  /-- `SLA B`, CB 20 (R228). -/
  | slaB
  /-- `SLA C`, CB 21 (R228). -/
  | slaC
  /-- `SLA D`, CB 22 (R228). -/
  | slaD
  /-- `SLA E`, CB 23 (R228). -/
  | slaE
  /-- `SLA H`, CB 24 (R228). -/
  | slaH
  /-- `SLA L`, CB 25 (R228). -/
  | slaL
  /-- `SLA (HL)`, CB 26 (R229). -/
  | slaMHl
  /-- `SLA A`, CB 27 (R228). -/
  | slaA
  /-- `SRA B`, CB 28 (R230). -/
  | sraB
  /-- `SRA C`, CB 29 (R230). -/
  | sraC
  /-- `SRA D`, CB 2A (R230). -/
  | sraD
  /-- `SRA E`, CB 2B (R230). -/
  | sraE
  /-- `SRA H`, CB 2C (R230). -/
  | sraH
  /-- `SRA L`, CB 2D (R230). -/
  | sraL
  /-- `SRA (HL)`, CB 2E (R231). -/
  | sraMHl
  /-- `SRA A`, CB 2F (R230). -/
  | sraA
  /-- `SWAP B`, CB 30 (R234). -/
  | swapB
  /-- `SWAP C`, CB 31 (R234). -/
  | swapC
  /-- `SWAP D`, CB 32 (R234). -/
  | swapD
  /-- `SWAP E`, CB 33 (R234). -/
  | swapE
  /-- `SWAP H`, CB 34 (R234). -/
  | swapH
  /-- `SWAP L`, CB 35 (R234). -/
  | swapL
  /-- `SWAP (HL)`, CB 36 (R235). -/
  | swapMHl
  /-- `SWAP A`, CB 37 (R234). -/
  | swapA
  /-- `SRL B`, CB 38 (R232). -/
  | srlB
  /-- `SRL C`, CB 39 (R232). -/
  | srlC
  /-- `SRL D`, CB 3A (R232). -/
  | srlD
  /-- `SRL E`, CB 3B (R232). -/
  | srlE
  /-- `SRL H`, CB 3C (R232). -/
  | srlH
  /-- `SRL L`, CB 3D (R232). -/
  | srlL
  /-- `SRL (HL)`, CB 3E (R233). -/
  | srlMHl
  /-- `SRL A`, CB 3F (R232). -/
  | srlA
  /-- `BIT 0,B`, CB 40 (R251). -/
  | bit0B
  /-- `BIT 0,C`, CB 41 (R251). -/
  | bit0C
  /-- `BIT 0,D`, CB 42 (R251). -/
  | bit0D
  /-- `BIT 0,E`, CB 43 (R251). -/
  | bit0E
  /-- `BIT 0,H`, CB 44 (R251). -/
  | bit0H
  /-- `BIT 0,L`, CB 45 (R251). -/
  | bit0L
  /-- `BIT 0,(HL)`, CB 46 (R252). -/
  | bit0MHl
  /-- `BIT 0,A`, CB 47 (R251). -/
  | bit0A
  /-- `BIT 1,B`, CB 48 (R251). -/
  | bit1B
  /-- `BIT 1,C`, CB 49 (R251). -/
  | bit1C
  /-- `BIT 1,D`, CB 4A (R251). -/
  | bit1D
  /-- `BIT 1,E`, CB 4B (R251). -/
  | bit1E
  /-- `BIT 1,H`, CB 4C (R251). -/
  | bit1H
  /-- `BIT 1,L`, CB 4D (R251). -/
  | bit1L
  /-- `BIT 1,(HL)`, CB 4E (R252). -/
  | bit1MHl
  /-- `BIT 1,A`, CB 4F (R251). -/
  | bit1A
  /-- `BIT 2,B`, CB 50 (R251). -/
  | bit2B
  /-- `BIT 2,C`, CB 51 (R251). -/
  | bit2C
  /-- `BIT 2,D`, CB 52 (R251). -/
  | bit2D
  /-- `BIT 2,E`, CB 53 (R251). -/
  | bit2E
  /-- `BIT 2,H`, CB 54 (R251). -/
  | bit2H
  /-- `BIT 2,L`, CB 55 (R251). -/
  | bit2L
  /-- `BIT 2,(HL)`, CB 56 (R252). -/
  | bit2MHl
  /-- `BIT 2,A`, CB 57 (R251). -/
  | bit2A
  /-- `BIT 3,B`, CB 58 (R251). -/
  | bit3B
  /-- `BIT 3,C`, CB 59 (R251). -/
  | bit3C
  /-- `BIT 3,D`, CB 5A (R251). -/
  | bit3D
  /-- `BIT 3,E`, CB 5B (R251). -/
  | bit3E
  /-- `BIT 3,H`, CB 5C (R251). -/
  | bit3H
  /-- `BIT 3,L`, CB 5D (R251). -/
  | bit3L
  /-- `BIT 3,(HL)`, CB 5E (R252). -/
  | bit3MHl
  /-- `BIT 3,A`, CB 5F (R251). -/
  | bit3A
  /-- `BIT 4,B`, CB 60 (R251). -/
  | bit4B
  /-- `BIT 4,C`, CB 61 (R251). -/
  | bit4C
  /-- `BIT 4,D`, CB 62 (R251). -/
  | bit4D
  /-- `BIT 4,E`, CB 63 (R251). -/
  | bit4E
  /-- `BIT 4,H`, CB 64 (R251). -/
  | bit4H
  /-- `BIT 4,L`, CB 65 (R251). -/
  | bit4L
  /-- `BIT 4,(HL)`, CB 66 (R252). -/
  | bit4MHl
  /-- `BIT 4,A`, CB 67 (R251). -/
  | bit4A
  /-- `BIT 5,B`, CB 68 (R251). -/
  | bit5B
  /-- `BIT 5,C`, CB 69 (R251). -/
  | bit5C
  /-- `BIT 5,D`, CB 6A (R251). -/
  | bit5D
  /-- `BIT 5,E`, CB 6B (R251). -/
  | bit5E
  /-- `BIT 5,H`, CB 6C (R251). -/
  | bit5H
  /-- `BIT 5,L`, CB 6D (R251). -/
  | bit5L
  /-- `BIT 5,(HL)`, CB 6E (R252). -/
  | bit5MHl
  /-- `BIT 5,A`, CB 6F (R251). -/
  | bit5A
  /-- `BIT 6,B`, CB 70 (R251). -/
  | bit6B
  /-- `BIT 6,C`, CB 71 (R251). -/
  | bit6C
  /-- `BIT 6,D`, CB 72 (R251). -/
  | bit6D
  /-- `BIT 6,E`, CB 73 (R251). -/
  | bit6E
  /-- `BIT 6,H`, CB 74 (R251). -/
  | bit6H
  /-- `BIT 6,L`, CB 75 (R251). -/
  | bit6L
  /-- `BIT 6,(HL)`, CB 76 (R252). -/
  | bit6MHl
  /-- `BIT 6,A`, CB 77 (R251). -/
  | bit6A
  /-- `BIT 7,B`, CB 78 (R251). -/
  | bit7B
  /-- `BIT 7,C`, CB 79 (R251). -/
  | bit7C
  /-- `BIT 7,D`, CB 7A (R251). -/
  | bit7D
  /-- `BIT 7,E`, CB 7B (R251). -/
  | bit7E
  /-- `BIT 7,H`, CB 7C (R251). -/
  | bit7H
  /-- `BIT 7,L`, CB 7D (R251). -/
  | bit7L
  /-- `BIT 7,(HL)`, CB 7E (R252). -/
  | bit7MHl
  /-- `BIT 7,A`, CB 7F (R251). -/
  | bit7A
  /-- `RES 0,B`, CB 80 (R255). -/
  | res0B
  /-- `RES 0,C`, CB 81 (R255). -/
  | res0C
  /-- `RES 0,D`, CB 82 (R255). -/
  | res0D
  /-- `RES 0,E`, CB 83 (R255). -/
  | res0E
  /-- `RES 0,H`, CB 84 (R255). -/
  | res0H
  /-- `RES 0,L`, CB 85 (R255). -/
  | res0L
  /-- `RES 0,(HL)`, CB 86 (R256). -/
  | res0MHl
  /-- `RES 0,A`, CB 87 (R255). -/
  | res0A
  /-- `RES 1,B`, CB 88 (R255). -/
  | res1B
  /-- `RES 1,C`, CB 89 (R255). -/
  | res1C
  /-- `RES 1,D`, CB 8A (R255). -/
  | res1D
  /-- `RES 1,E`, CB 8B (R255). -/
  | res1E
  /-- `RES 1,H`, CB 8C (R255). -/
  | res1H
  /-- `RES 1,L`, CB 8D (R255). -/
  | res1L
  /-- `RES 1,(HL)`, CB 8E (R256). -/
  | res1MHl
  /-- `RES 1,A`, CB 8F (R255). -/
  | res1A
  /-- `RES 2,B`, CB 90 (R255). -/
  | res2B
  /-- `RES 2,C`, CB 91 (R255). -/
  | res2C
  /-- `RES 2,D`, CB 92 (R255). -/
  | res2D
  /-- `RES 2,E`, CB 93 (R255). -/
  | res2E
  /-- `RES 2,H`, CB 94 (R255). -/
  | res2H
  /-- `RES 2,L`, CB 95 (R255). -/
  | res2L
  /-- `RES 2,(HL)`, CB 96 (R256). -/
  | res2MHl
  /-- `RES 2,A`, CB 97 (R255). -/
  | res2A
  /-- `RES 3,B`, CB 98 (R255). -/
  | res3B
  /-- `RES 3,C`, CB 99 (R255). -/
  | res3C
  /-- `RES 3,D`, CB 9A (R255). -/
  | res3D
  /-- `RES 3,E`, CB 9B (R255). -/
  | res3E
  /-- `RES 3,H`, CB 9C (R255). -/
  | res3H
  /-- `RES 3,L`, CB 9D (R255). -/
  | res3L
  /-- `RES 3,(HL)`, CB 9E (R256). -/
  | res3MHl
  /-- `RES 3,A`, CB 9F (R255). -/
  | res3A
  /-- `RES 4,B`, CB A0 (R255). -/
  | res4B
  /-- `RES 4,C`, CB A1 (R255). -/
  | res4C
  /-- `RES 4,D`, CB A2 (R255). -/
  | res4D
  /-- `RES 4,E`, CB A3 (R255). -/
  | res4E
  /-- `RES 4,H`, CB A4 (R255). -/
  | res4H
  /-- `RES 4,L`, CB A5 (R255). -/
  | res4L
  /-- `RES 4,(HL)`, CB A6 (R256). -/
  | res4MHl
  /-- `RES 4,A`, CB A7 (R255). -/
  | res4A
  /-- `RES 5,B`, CB A8 (R255). -/
  | res5B
  /-- `RES 5,C`, CB A9 (R255). -/
  | res5C
  /-- `RES 5,D`, CB AA (R255). -/
  | res5D
  /-- `RES 5,E`, CB AB (R255). -/
  | res5E
  /-- `RES 5,H`, CB AC (R255). -/
  | res5H
  /-- `RES 5,L`, CB AD (R255). -/
  | res5L
  /-- `RES 5,(HL)`, CB AE (R256). -/
  | res5MHl
  /-- `RES 5,A`, CB AF (R255). -/
  | res5A
  /-- `RES 6,B`, CB B0 (R255). -/
  | res6B
  /-- `RES 6,C`, CB B1 (R255). -/
  | res6C
  /-- `RES 6,D`, CB B2 (R255). -/
  | res6D
  /-- `RES 6,E`, CB B3 (R255). -/
  | res6E
  /-- `RES 6,H`, CB B4 (R255). -/
  | res6H
  /-- `RES 6,L`, CB B5 (R255). -/
  | res6L
  /-- `RES 6,(HL)`, CB B6 (R256). -/
  | res6MHl
  /-- `RES 6,A`, CB B7 (R255). -/
  | res6A
  /-- `RES 7,B`, CB B8 (R255). -/
  | res7B
  /-- `RES 7,C`, CB B9 (R255). -/
  | res7C
  /-- `RES 7,D`, CB BA (R255). -/
  | res7D
  /-- `RES 7,E`, CB BB (R255). -/
  | res7E
  /-- `RES 7,H`, CB BC (R255). -/
  | res7H
  /-- `RES 7,L`, CB BD (R255). -/
  | res7L
  /-- `RES 7,(HL)`, CB BE (R256). -/
  | res7MHl
  /-- `RES 7,A`, CB BF (R255). -/
  | res7A
  /-- `SET 0,B`, CB C0 (R253). -/
  | set0B
  /-- `SET 0,C`, CB C1 (R253). -/
  | set0C
  /-- `SET 0,D`, CB C2 (R253). -/
  | set0D
  /-- `SET 0,E`, CB C3 (R253). -/
  | set0E
  /-- `SET 0,H`, CB C4 (R253). -/
  | set0H
  /-- `SET 0,L`, CB C5 (R253). -/
  | set0L
  /-- `SET 0,(HL)`, CB C6 (R254). -/
  | set0MHl
  /-- `SET 0,A`, CB C7 (R253). -/
  | set0A
  /-- `SET 1,B`, CB C8 (R253). -/
  | set1B
  /-- `SET 1,C`, CB C9 (R253). -/
  | set1C
  /-- `SET 1,D`, CB CA (R253). -/
  | set1D
  /-- `SET 1,E`, CB CB (R253). -/
  | set1E
  /-- `SET 1,H`, CB CC (R253). -/
  | set1H
  /-- `SET 1,L`, CB CD (R253). -/
  | set1L
  /-- `SET 1,(HL)`, CB CE (R254). -/
  | set1MHl
  /-- `SET 1,A`, CB CF (R253). -/
  | set1A
  /-- `SET 2,B`, CB D0 (R253). -/
  | set2B
  /-- `SET 2,C`, CB D1 (R253). -/
  | set2C
  /-- `SET 2,D`, CB D2 (R253). -/
  | set2D
  /-- `SET 2,E`, CB D3 (R253). -/
  | set2E
  /-- `SET 2,H`, CB D4 (R253). -/
  | set2H
  /-- `SET 2,L`, CB D5 (R253). -/
  | set2L
  /-- `SET 2,(HL)`, CB D6 (R254). -/
  | set2MHl
  /-- `SET 2,A`, CB D7 (R253). -/
  | set2A
  /-- `SET 3,B`, CB D8 (R253). -/
  | set3B
  /-- `SET 3,C`, CB D9 (R253). -/
  | set3C
  /-- `SET 3,D`, CB DA (R253). -/
  | set3D
  /-- `SET 3,E`, CB DB (R253). -/
  | set3E
  /-- `SET 3,H`, CB DC (R253). -/
  | set3H
  /-- `SET 3,L`, CB DD (R253). -/
  | set3L
  /-- `SET 3,(HL)`, CB DE (R254). -/
  | set3MHl
  /-- `SET 3,A`, CB DF (R253). -/
  | set3A
  /-- `SET 4,B`, CB E0 (R253). -/
  | set4B
  /-- `SET 4,C`, CB E1 (R253). -/
  | set4C
  /-- `SET 4,D`, CB E2 (R253). -/
  | set4D
  /-- `SET 4,E`, CB E3 (R253). -/
  | set4E
  /-- `SET 4,H`, CB E4 (R253). -/
  | set4H
  /-- `SET 4,L`, CB E5 (R253). -/
  | set4L
  /-- `SET 4,(HL)`, CB E6 (R254). -/
  | set4MHl
  /-- `SET 4,A`, CB E7 (R253). -/
  | set4A
  /-- `SET 5,B`, CB E8 (R253). -/
  | set5B
  /-- `SET 5,C`, CB E9 (R253). -/
  | set5C
  /-- `SET 5,D`, CB EA (R253). -/
  | set5D
  /-- `SET 5,E`, CB EB (R253). -/
  | set5E
  /-- `SET 5,H`, CB EC (R253). -/
  | set5H
  /-- `SET 5,L`, CB ED (R253). -/
  | set5L
  /-- `SET 5,(HL)`, CB EE (R254). -/
  | set5MHl
  /-- `SET 5,A`, CB EF (R253). -/
  | set5A
  /-- `SET 6,B`, CB F0 (R253). -/
  | set6B
  /-- `SET 6,C`, CB F1 (R253). -/
  | set6C
  /-- `SET 6,D`, CB F2 (R253). -/
  | set6D
  /-- `SET 6,E`, CB F3 (R253). -/
  | set6E
  /-- `SET 6,H`, CB F4 (R253). -/
  | set6H
  /-- `SET 6,L`, CB F5 (R253). -/
  | set6L
  /-- `SET 6,(HL)`, CB F6 (R254). -/
  | set6MHl
  /-- `SET 6,A`, CB F7 (R253). -/
  | set6A
  /-- `SET 7,B`, CB F8 (R253). -/
  | set7B
  /-- `SET 7,C`, CB F9 (R253). -/
  | set7C
  /-- `SET 7,D`, CB FA (R253). -/
  | set7D
  /-- `SET 7,E`, CB FB (R253). -/
  | set7E
  /-- `SET 7,H`, CB FC (R253). -/
  | set7H
  /-- `SET 7,L`, CB FD (R253). -/
  | set7L
  /-- `SET 7,(HL)`, CB FE (R254). -/
  | set7MHl
  /-- `SET 7,A`, CB FF (R253). -/
  | set7A
  deriving DecidableEq, Repr

end Sys2Proof
end

