-- ==== Sys2Proof/WellFormed.lean ====
section
/-! DEFINITION. Which terms of `Instr` are instructions. Every operand is held in a type of exactly
its width, so the one check left is that the prefix byte "is not an instruction by itself" (R300):
a CB-prefixed instruction is written by its own constructor (log 5). -/
namespace Sys2Proof

/-- `i` is an instruction of the machine: anything but the lone prefix byte (R300). -/
def Instr.wellFormed (i : Instr) : Bool :=
  match i with
  | .prefixCb => false
  | _ => true

end Sys2Proof
end

