-- ==== Sys2Proof/Decode.lean ====
section
/-! DEFINITION. The decoder, total on any bytes (R82), from the two flat lookup tables of R80: the
base table as the grid of R91 and the CB table of R92, each row the sixteen low nibbles of one
high nibble. After it the encoder, written apart from the tables, one instruction a line, from the
`match` column of spec/opcode_table.json. -/
namespace Sys2Proof

/-- Why bytes do not decode. -/
inductive DecodeError where
  /-- The first byte selects no instruction (R93, R311). -/
  | unknownInstruction (byte : Byte)
  /-- The list ends before the instruction does. A fetch never answers this: memory has a byte at
  every address (R50). -/
  | truncated
  deriving DecidableEq, Repr

/-- A cell of the base table: what the first byte selects and which operand bytes follow (R83). -/
inductive BaseEntry where
  /-- An instruction with no operand (format `OP`). -/
  | plain (i : Instr)
  /-- STOP: the bytes after the first are not examined (format `OP_X8`, R81). -/
  | padded (i : Instr)
  /-- An instruction with one operand byte (formats `OP_D8`, `OP_E8`, `OP_A8`). -/
  | byte (f : Byte → Instr)
  /-- An instruction with an operand word, low byte first (formats `OP_D16`, `OP_A16`). -/
  | word (f : Word → Instr)
  /-- The CB prefix: the next byte selects from the CB table. -/
  | cbTable
  /-- One of the eleven undefined first bytes (R93). -/
  | undefined

/-- First bytes 0x00 to 0x0F (R91). -/
def baseRow0 : List BaseEntry :=
  [.plain .nop, .word .ldBcD16, .plain .ldMBcA, .plain .incBc, .plain .incB, .plain .decB, .byte .ldBD8, .plain .rlca,
   .word .ldMA16Hl, .plain .addHlBc, .plain .ldAMBc, .plain .decBc, .plain .incC, .plain .decC, .byte .ldCD8, .plain .rrca]

/-- First bytes 0x10 to 0x1F (R91). -/
def baseRow1 : List BaseEntry :=
  [.padded .stop, .word .ldDeD16, .plain .ldMDeA, .plain .incDe, .plain .incD, .plain .decD, .byte .ldDD8, .plain .rla,
   .byte .jrE8, .plain .addHlDe, .plain .ldAMDe, .plain .decDe, .plain .incE, .plain .decE, .byte .ldED8, .plain .rra]

/-- First bytes 0x20 to 0x2F (R91). -/
def baseRow2 : List BaseEntry :=
  [.byte .jrNzE8, .word .ldHlD16, .plain .ldMHlIncA, .plain .incHl, .plain .incH, .plain .decH, .byte .ldHD8, .plain .daa,
   .byte .jrZE8, .plain .addHlHl, .plain .ldAMHlInc, .plain .decHl, .plain .incL, .plain .decL, .byte .ldLD8, .plain .cpl]

/-- First bytes 0x30 to 0x3F (R91). -/
def baseRow3 : List BaseEntry :=
  [.byte .jrNcE8, .word .ldSpD16, .plain .ldMHlDecA, .plain .incSp, .plain .incMHl, .plain .decMHl, .byte .ldMHlD8, .plain .scf,
   .byte .jrCE8, .plain .addHlSp, .plain .ldAMHlDec, .plain .decSp, .plain .incA, .plain .decA, .byte .ldAD8, .plain .ccf]

/-- First bytes 0x40 to 0x4F (R91). -/
def baseRow4 : List BaseEntry :=
  [.plain .ldBB, .plain .ldBC, .plain .ldBD, .plain .ldBE, .plain .ldBH, .plain .ldBL, .plain .ldBMHl, .plain .ldBA,
   .plain .ldCB, .plain .ldCC, .plain .ldCD, .plain .ldCE, .plain .ldCH, .plain .ldCL, .plain .ldCMHl, .plain .ldCA]

/-- First bytes 0x50 to 0x5F (R91). -/
def baseRow5 : List BaseEntry :=
  [.plain .ldDB, .plain .ldDC, .plain .ldDD, .plain .ldDE, .plain .ldDH, .plain .ldDL, .plain .ldDMHl, .plain .ldDA,
   .plain .ldEB, .plain .ldEC, .plain .ldED, .plain .ldEE, .plain .ldEH, .plain .ldEL, .plain .ldEMHl, .plain .ldEA]

/-- First bytes 0x60 to 0x6F (R91). -/
def baseRow6 : List BaseEntry :=
  [.plain .ldHB, .plain .ldHC, .plain .ldHD, .plain .ldHE, .plain .ldHH, .plain .ldHL, .plain .ldHMHl, .plain .ldHA,
   .plain .ldLB, .plain .ldLC, .plain .ldLD, .plain .ldLE, .plain .ldLH, .plain .ldLL, .plain .ldLMHl, .plain .ldLA]

/-- First bytes 0x70 to 0x7F (R91). -/
def baseRow7 : List BaseEntry :=
  [.plain .ldMHlB, .plain .ldMHlC, .plain .ldMHlD, .plain .ldMHlE, .plain .ldMHlH, .plain .ldMHlL, .plain .halt, .plain .ldMHlA,
   .plain .ldAB, .plain .ldAC, .plain .ldAD, .plain .ldAE, .plain .ldAH, .plain .ldAL, .plain .ldAMHl, .plain .ldAA]

/-- First bytes 0x80 to 0x8F (R91). -/
def baseRow8 : List BaseEntry :=
  [.plain .addAB, .plain .addAC, .plain .addAD, .plain .addAE, .plain .addAH, .plain .addAL, .plain .addAMHl, .plain .addAA,
   .plain .adcAB, .plain .adcAC, .plain .adcAD, .plain .adcAE, .plain .adcAH, .plain .adcAL, .plain .adcAMHl, .plain .adcAA]

/-- First bytes 0x90 to 0x9F (R91). -/
def baseRow9 : List BaseEntry :=
  [.plain .subAB, .plain .subAC, .plain .subAD, .plain .subAE, .plain .subAH, .plain .subAL, .plain .subAMHl, .plain .subAA,
   .plain .sbcAB, .plain .sbcAC, .plain .sbcAD, .plain .sbcAE, .plain .sbcAH, .plain .sbcAL, .plain .sbcAMHl, .plain .sbcAA]

/-- First bytes 0xA0 to 0xAF (R91). -/
def baseRowA : List BaseEntry :=
  [.plain .andAB, .plain .andAC, .plain .andAD, .plain .andAE, .plain .andAH, .plain .andAL, .plain .andAMHl, .plain .andAA,
   .plain .xorAB, .plain .xorAC, .plain .xorAD, .plain .xorAE, .plain .xorAH, .plain .xorAL, .plain .xorAMHl, .plain .xorAA]

/-- First bytes 0xB0 to 0xBF (R91). -/
def baseRowB : List BaseEntry :=
  [.plain .orAB, .plain .orAC, .plain .orAD, .plain .orAE, .plain .orAH, .plain .orAL, .plain .orAMHl, .plain .orAA,
   .plain .cpAB, .plain .cpAC, .plain .cpAD, .plain .cpAE, .plain .cpAH, .plain .cpAL, .plain .cpAMHl, .plain .cpAA]

/-- First bytes 0xC0 to 0xCF (R91). -/
def baseRowC : List BaseEntry :=
  [.plain .retNz, .plain .popBc, .word .jpNzA16, .word .jpA16, .word .callNzA16, .plain .pushBc, .byte .addAD8, .plain .rst00,
   .plain .retZ, .plain .ret, .word .jpZA16, .cbTable, .word .callZA16, .word .callA16, .byte .adcAD8, .plain .rst08]

/-- First bytes 0xD0 to 0xDF (R91). -/
def baseRowD : List BaseEntry :=
  [.plain .retNc, .plain .popDe, .word .jpNcA16, .undefined, .word .callNcA16, .plain .pushDe, .byte .subAD8, .plain .rst10,
   .plain .retC, .plain .reti, .word .jpCA16, .undefined, .word .callCA16, .undefined, .byte .sbcAD8, .plain .rst18]

/-- First bytes 0xE0 to 0xEF (R91). -/
def baseRowE : List BaseEntry :=
  [.byte .ldhMA8A, .plain .popHl, .plain .ldhMCA, .undefined, .undefined, .plain .pushHl, .byte .andAD8, .plain .rst20,
   .byte .addSpE8, .plain .jpHl, .word .ldMA16A, .undefined, .undefined, .undefined, .byte .xorAD8, .plain .rst28]

/-- First bytes 0xF0 to 0xFF (R91). -/
def baseRowF : List BaseEntry :=
  [.byte .ldhAMA8, .plain .popAf, .plain .ldhAMC, .plain .di, .undefined, .plain .pushAf, .byte .orAD8, .plain .rst30,
   .byte .ldHlSpE8, .plain .ldSpHl, .word .ldAMA16, .plain .ei, .undefined, .undefined, .byte .cpAD8, .plain .rst38]

/-- The base table as the grid of R91: row = high nibble, column = low nibble. -/
def baseTable : List (List BaseEntry) :=
  [baseRow0, baseRow1, baseRow2, baseRow3, baseRow4, baseRow5, baseRow6, baseRow7,
   baseRow8, baseRow9, baseRowA, baseRowB, baseRowC, baseRowD, baseRowE, baseRowF]

/-- The cell of a grid that a byte selects: its high nibble the row, its low nibble the column. -/
def cellAt {α : Type} (grid : List (List α)) (b : Byte) : Option α :=
  (grid[b.toNat / 16]?.getD [])[b.toNat % 16]?

/-- Second bytes 0x00 to 0x0F after 0xCB (R92). -/
def cbRow0 : List Instr :=
  [.rlcB, .rlcC, .rlcD, .rlcE, .rlcH, .rlcL, .rlcMHl, .rlcA,
   .rrcB, .rrcC, .rrcD, .rrcE, .rrcH, .rrcL, .rrcMHl, .rrcA]

/-- Second bytes 0x10 to 0x1F after 0xCB (R92). -/
def cbRow1 : List Instr :=
  [.rlB, .rlC, .rlD, .rlE, .rlH, .rlL, .rlMHl, .rlA,
   .rrB, .rrC, .rrD, .rrE, .rrH, .rrL, .rrMHl, .rrA]

/-- Second bytes 0x20 to 0x2F after 0xCB (R92). -/
def cbRow2 : List Instr :=
  [.slaB, .slaC, .slaD, .slaE, .slaH, .slaL, .slaMHl, .slaA,
   .sraB, .sraC, .sraD, .sraE, .sraH, .sraL, .sraMHl, .sraA]

/-- Second bytes 0x30 to 0x3F after 0xCB (R92). -/
def cbRow3 : List Instr :=
  [.swapB, .swapC, .swapD, .swapE, .swapH, .swapL, .swapMHl, .swapA,
   .srlB, .srlC, .srlD, .srlE, .srlH, .srlL, .srlMHl, .srlA]

/-- Second bytes 0x40 to 0x4F after 0xCB (R92). -/
def cbRow4 : List Instr :=
  [.bit0B, .bit0C, .bit0D, .bit0E, .bit0H, .bit0L, .bit0MHl, .bit0A,
   .bit1B, .bit1C, .bit1D, .bit1E, .bit1H, .bit1L, .bit1MHl, .bit1A]

/-- Second bytes 0x50 to 0x5F after 0xCB (R92). -/
def cbRow5 : List Instr :=
  [.bit2B, .bit2C, .bit2D, .bit2E, .bit2H, .bit2L, .bit2MHl, .bit2A,
   .bit3B, .bit3C, .bit3D, .bit3E, .bit3H, .bit3L, .bit3MHl, .bit3A]

/-- Second bytes 0x60 to 0x6F after 0xCB (R92). -/
def cbRow6 : List Instr :=
  [.bit4B, .bit4C, .bit4D, .bit4E, .bit4H, .bit4L, .bit4MHl, .bit4A,
   .bit5B, .bit5C, .bit5D, .bit5E, .bit5H, .bit5L, .bit5MHl, .bit5A]

/-- Second bytes 0x70 to 0x7F after 0xCB (R92). -/
def cbRow7 : List Instr :=
  [.bit6B, .bit6C, .bit6D, .bit6E, .bit6H, .bit6L, .bit6MHl, .bit6A,
   .bit7B, .bit7C, .bit7D, .bit7E, .bit7H, .bit7L, .bit7MHl, .bit7A]

/-- Second bytes 0x80 to 0x8F after 0xCB (R92). -/
def cbRow8 : List Instr :=
  [.res0B, .res0C, .res0D, .res0E, .res0H, .res0L, .res0MHl, .res0A,
   .res1B, .res1C, .res1D, .res1E, .res1H, .res1L, .res1MHl, .res1A]

/-- Second bytes 0x90 to 0x9F after 0xCB (R92). -/
def cbRow9 : List Instr :=
  [.res2B, .res2C, .res2D, .res2E, .res2H, .res2L, .res2MHl, .res2A,
   .res3B, .res3C, .res3D, .res3E, .res3H, .res3L, .res3MHl, .res3A]

/-- Second bytes 0xA0 to 0xAF after 0xCB (R92). -/
def cbRowA : List Instr :=
  [.res4B, .res4C, .res4D, .res4E, .res4H, .res4L, .res4MHl, .res4A,
   .res5B, .res5C, .res5D, .res5E, .res5H, .res5L, .res5MHl, .res5A]

/-- Second bytes 0xB0 to 0xBF after 0xCB (R92). -/
def cbRowB : List Instr :=
  [.res6B, .res6C, .res6D, .res6E, .res6H, .res6L, .res6MHl, .res6A,
   .res7B, .res7C, .res7D, .res7E, .res7H, .res7L, .res7MHl, .res7A]

/-- Second bytes 0xC0 to 0xCF after 0xCB (R92). -/
def cbRowC : List Instr :=
  [.set0B, .set0C, .set0D, .set0E, .set0H, .set0L, .set0MHl, .set0A,
   .set1B, .set1C, .set1D, .set1E, .set1H, .set1L, .set1MHl, .set1A]

/-- Second bytes 0xD0 to 0xDF after 0xCB (R92). -/
def cbRowD : List Instr :=
  [.set2B, .set2C, .set2D, .set2E, .set2H, .set2L, .set2MHl, .set2A,
   .set3B, .set3C, .set3D, .set3E, .set3H, .set3L, .set3MHl, .set3A]

/-- Second bytes 0xE0 to 0xEF after 0xCB (R92). -/
def cbRowE : List Instr :=
  [.set4B, .set4C, .set4D, .set4E, .set4H, .set4L, .set4MHl, .set4A,
   .set5B, .set5C, .set5D, .set5E, .set5H, .set5L, .set5MHl, .set5A]

/-- Second bytes 0xF0 to 0xFF after 0xCB (R92). -/
def cbRowF : List Instr :=
  [.set6B, .set6C, .set6D, .set6E, .set6H, .set6L, .set6MHl, .set6A,
   .set7B, .set7C, .set7D, .set7E, .set7H, .set7L, .set7MHl, .set7A]

/-- The CB table, complete (R92, R93). -/
def cbTable : List (List Instr) :=
  [cbRow0, cbRow1, cbRow2, cbRow3, cbRow4, cbRow5, cbRow6, cbRow7,
   cbRow8, cbRow9, cbRowA, cbRowB, cbRowC, cbRowD, cbRowE, cbRowF]

/-- The length in bytes the first byte alone gives, STOP's being `P_STOP_LEN` (R81, R95). The
undefined bytes have none; they answer 1, and no caller uses it. -/
def lengthOf (cfg : Config) (b0 : Byte) : Nat :=
  match cellAt baseTable b0 with
  | some (.plain _) => 1
  | some (.padded _) => cfg.stopLen
  | some (.byte _) => 2
  | some (.word _) => 3
  | some .cbTable => 2
  | some .undefined => 1
  | none => 1

/-- Decode the instruction whose first three bytes are `b0 b1 b2` (R82). Bytes the instruction
does not have are not looked at. -/
def decodeBytes (b0 b1 b2 : Byte) : Except DecodeError Instr :=
  match cellAt baseTable b0 with
  | some (.plain i) => .ok i
  | some (.padded i) => .ok i
  | some (.byte f) => .ok (f b1)
  | some (.word f) => .ok (f (Machine.pair b2 b1))
  | some .cbTable =>
    match cellAt cbTable b1 with
    | some i => .ok i
    | none => .error (.unknownInstruction b1)
  | some .undefined => .error (.unknownInstruction b0)
  | none => .error (.unknownInstruction b0)

/-- Decode one instruction from the front of a list of bytes; answer it with the bytes after it. -/
def decodeWith (cfg : Config) (bytes : List Byte) : Except DecodeError (Instr × List Byte) :=
  match bytes with
  | [] => .error .truncated
  | b0 :: rest =>
    match decodeBytes b0 (rest[0]?.getD 0) (rest[1]?.getD 0) with
    | .error e => .error e
    | .ok i =>
      if bytes.length < lengthOf cfg b0 then .error .truncated
      else .ok (i, bytes.drop (lengthOf cfg b0))

/-- `decodeWith` at the spec's parameters. -/
def decode (bytes : List Byte) : Except DecodeError (Instr × List Byte) :=
  decodeWith Config.default bytes

/-- The bytes of an instruction, lowest address first, at the spec's parameters (R57, R83). STOP's
second byte, which is not examined, is written 0x00 (R297: "the conventional LR35902 encoding `10 00`";
log 6). -/
def encode (i : Instr) : List Byte :=
  match i with
  | .nop => [0x00]
  | .ldBcD16 d16 => [0x01, Machine.lo d16, Machine.hi d16]
  | .ldMBcA => [0x02]
  | .incBc => [0x03]
  | .incB => [0x04]
  | .decB => [0x05]
  | .ldBD8 d8 => [0x06, d8]
  | .rlca => [0x07]
  | .ldMA16Hl a16 => [0x08, Machine.lo a16, Machine.hi a16]
  | .addHlBc => [0x09]
  | .ldAMBc => [0x0A]
  | .decBc => [0x0B]
  | .incC => [0x0C]
  | .decC => [0x0D]
  | .ldCD8 d8 => [0x0E, d8]
  | .rrca => [0x0F]
  | .stop => [0x10, 0x00]
  | .ldDeD16 d16 => [0x11, Machine.lo d16, Machine.hi d16]
  | .ldMDeA => [0x12]
  | .incDe => [0x13]
  | .incD => [0x14]
  | .decD => [0x15]
  | .ldDD8 d8 => [0x16, d8]
  | .rla => [0x17]
  | .jrE8 e8 => [0x18, e8]
  | .addHlDe => [0x19]
  | .ldAMDe => [0x1A]
  | .decDe => [0x1B]
  | .incE => [0x1C]
  | .decE => [0x1D]
  | .ldED8 d8 => [0x1E, d8]
  | .rra => [0x1F]
  | .jrNzE8 e8 => [0x20, e8]
  | .ldHlD16 d16 => [0x21, Machine.lo d16, Machine.hi d16]
  | .ldMHlIncA => [0x22]
  | .incHl => [0x23]
  | .incH => [0x24]
  | .decH => [0x25]
  | .ldHD8 d8 => [0x26, d8]
  | .daa => [0x27]
  | .jrZE8 e8 => [0x28, e8]
  | .addHlHl => [0x29]
  | .ldAMHlInc => [0x2A]
  | .decHl => [0x2B]
  | .incL => [0x2C]
  | .decL => [0x2D]
  | .ldLD8 d8 => [0x2E, d8]
  | .cpl => [0x2F]
  | .jrNcE8 e8 => [0x30, e8]
  | .ldSpD16 d16 => [0x31, Machine.lo d16, Machine.hi d16]
  | .ldMHlDecA => [0x32]
  | .incSp => [0x33]
  | .incMHl => [0x34]
  | .decMHl => [0x35]
  | .ldMHlD8 d8 => [0x36, d8]
  | .scf => [0x37]
  | .jrCE8 e8 => [0x38, e8]
  | .addHlSp => [0x39]
  | .ldAMHlDec => [0x3A]
  | .decSp => [0x3B]
  | .incA => [0x3C]
  | .decA => [0x3D]
  | .ldAD8 d8 => [0x3E, d8]
  | .ccf => [0x3F]
  | .ldBB => [0x40]
  | .ldBC => [0x41]
  | .ldBD => [0x42]
  | .ldBE => [0x43]
  | .ldBH => [0x44]
  | .ldBL => [0x45]
  | .ldBMHl => [0x46]
  | .ldBA => [0x47]
  | .ldCB => [0x48]
  | .ldCC => [0x49]
  | .ldCD => [0x4A]
  | .ldCE => [0x4B]
  | .ldCH => [0x4C]
  | .ldCL => [0x4D]
  | .ldCMHl => [0x4E]
  | .ldCA => [0x4F]
  | .ldDB => [0x50]
  | .ldDC => [0x51]
  | .ldDD => [0x52]
  | .ldDE => [0x53]
  | .ldDH => [0x54]
  | .ldDL => [0x55]
  | .ldDMHl => [0x56]
  | .ldDA => [0x57]
  | .ldEB => [0x58]
  | .ldEC => [0x59]
  | .ldED => [0x5A]
  | .ldEE => [0x5B]
  | .ldEH => [0x5C]
  | .ldEL => [0x5D]
  | .ldEMHl => [0x5E]
  | .ldEA => [0x5F]
  | .ldHB => [0x60]
  | .ldHC => [0x61]
  | .ldHD => [0x62]
  | .ldHE => [0x63]
  | .ldHH => [0x64]
  | .ldHL => [0x65]
  | .ldHMHl => [0x66]
  | .ldHA => [0x67]
  | .ldLB => [0x68]
  | .ldLC => [0x69]
  | .ldLD => [0x6A]
  | .ldLE => [0x6B]
  | .ldLH => [0x6C]
  | .ldLL => [0x6D]
  | .ldLMHl => [0x6E]
  | .ldLA => [0x6F]
  | .ldMHlB => [0x70]
  | .ldMHlC => [0x71]
  | .ldMHlD => [0x72]
  | .ldMHlE => [0x73]
  | .ldMHlH => [0x74]
  | .ldMHlL => [0x75]
  | .halt => [0x76]
  | .ldMHlA => [0x77]
  | .ldAB => [0x78]
  | .ldAC => [0x79]
  | .ldAD => [0x7A]
  | .ldAE => [0x7B]
  | .ldAH => [0x7C]
  | .ldAL => [0x7D]
  | .ldAMHl => [0x7E]
  | .ldAA => [0x7F]
  | .addAB => [0x80]
  | .addAC => [0x81]
  | .addAD => [0x82]
  | .addAE => [0x83]
  | .addAH => [0x84]
  | .addAL => [0x85]
  | .addAMHl => [0x86]
  | .addAA => [0x87]
  | .adcAB => [0x88]
  | .adcAC => [0x89]
  | .adcAD => [0x8A]
  | .adcAE => [0x8B]
  | .adcAH => [0x8C]
  | .adcAL => [0x8D]
  | .adcAMHl => [0x8E]
  | .adcAA => [0x8F]
  | .subAB => [0x90]
  | .subAC => [0x91]
  | .subAD => [0x92]
  | .subAE => [0x93]
  | .subAH => [0x94]
  | .subAL => [0x95]
  | .subAMHl => [0x96]
  | .subAA => [0x97]
  | .sbcAB => [0x98]
  | .sbcAC => [0x99]
  | .sbcAD => [0x9A]
  | .sbcAE => [0x9B]
  | .sbcAH => [0x9C]
  | .sbcAL => [0x9D]
  | .sbcAMHl => [0x9E]
  | .sbcAA => [0x9F]
  | .andAB => [0xA0]
  | .andAC => [0xA1]
  | .andAD => [0xA2]
  | .andAE => [0xA3]
  | .andAH => [0xA4]
  | .andAL => [0xA5]
  | .andAMHl => [0xA6]
  | .andAA => [0xA7]
  | .xorAB => [0xA8]
  | .xorAC => [0xA9]
  | .xorAD => [0xAA]
  | .xorAE => [0xAB]
  | .xorAH => [0xAC]
  | .xorAL => [0xAD]
  | .xorAMHl => [0xAE]
  | .xorAA => [0xAF]
  | .orAB => [0xB0]
  | .orAC => [0xB1]
  | .orAD => [0xB2]
  | .orAE => [0xB3]
  | .orAH => [0xB4]
  | .orAL => [0xB5]
  | .orAMHl => [0xB6]
  | .orAA => [0xB7]
  | .cpAB => [0xB8]
  | .cpAC => [0xB9]
  | .cpAD => [0xBA]
  | .cpAE => [0xBB]
  | .cpAH => [0xBC]
  | .cpAL => [0xBD]
  | .cpAMHl => [0xBE]
  | .cpAA => [0xBF]
  | .retNz => [0xC0]
  | .popBc => [0xC1]
  | .jpNzA16 a16 => [0xC2, Machine.lo a16, Machine.hi a16]
  | .jpA16 a16 => [0xC3, Machine.lo a16, Machine.hi a16]
  | .callNzA16 a16 => [0xC4, Machine.lo a16, Machine.hi a16]
  | .pushBc => [0xC5]
  | .addAD8 d8 => [0xC6, d8]
  | .rst00 => [0xC7]
  | .retZ => [0xC8]
  | .ret => [0xC9]
  | .jpZA16 a16 => [0xCA, Machine.lo a16, Machine.hi a16]
  | .prefixCb => [0xCB]
  | .callZA16 a16 => [0xCC, Machine.lo a16, Machine.hi a16]
  | .callA16 a16 => [0xCD, Machine.lo a16, Machine.hi a16]
  | .adcAD8 d8 => [0xCE, d8]
  | .rst08 => [0xCF]
  | .retNc => [0xD0]
  | .popDe => [0xD1]
  | .jpNcA16 a16 => [0xD2, Machine.lo a16, Machine.hi a16]
  | .callNcA16 a16 => [0xD4, Machine.lo a16, Machine.hi a16]
  | .pushDe => [0xD5]
  | .subAD8 d8 => [0xD6, d8]
  | .rst10 => [0xD7]
  | .retC => [0xD8]
  | .reti => [0xD9]
  | .jpCA16 a16 => [0xDA, Machine.lo a16, Machine.hi a16]
  | .callCA16 a16 => [0xDC, Machine.lo a16, Machine.hi a16]
  | .sbcAD8 d8 => [0xDE, d8]
  | .rst18 => [0xDF]
  | .ldhMA8A a8 => [0xE0, a8]
  | .popHl => [0xE1]
  | .ldhMCA => [0xE2]
  | .pushHl => [0xE5]
  | .andAD8 d8 => [0xE6, d8]
  | .rst20 => [0xE7]
  | .addSpE8 e8 => [0xE8, e8]
  | .jpHl => [0xE9]
  | .ldMA16A a16 => [0xEA, Machine.lo a16, Machine.hi a16]
  | .xorAD8 d8 => [0xEE, d8]
  | .rst28 => [0xEF]
  | .ldhAMA8 a8 => [0xF0, a8]
  | .popAf => [0xF1]
  | .ldhAMC => [0xF2]
  | .di => [0xF3]
  | .pushAf => [0xF5]
  | .orAD8 d8 => [0xF6, d8]
  | .rst30 => [0xF7]
  | .ldHlSpE8 e8 => [0xF8, e8]
  | .ldSpHl => [0xF9]
  | .ldAMA16 a16 => [0xFA, Machine.lo a16, Machine.hi a16]
  | .ei => [0xFB]
  | .cpAD8 d8 => [0xFE, d8]
  | .rst38 => [0xFF]
  | .rlcB => [0xCB, 0x00]
  | .rlcC => [0xCB, 0x01]
  | .rlcD => [0xCB, 0x02]
  | .rlcE => [0xCB, 0x03]
  | .rlcH => [0xCB, 0x04]
  | .rlcL => [0xCB, 0x05]
  | .rlcMHl => [0xCB, 0x06]
  | .rlcA => [0xCB, 0x07]
  | .rrcB => [0xCB, 0x08]
  | .rrcC => [0xCB, 0x09]
  | .rrcD => [0xCB, 0x0A]
  | .rrcE => [0xCB, 0x0B]
  | .rrcH => [0xCB, 0x0C]
  | .rrcL => [0xCB, 0x0D]
  | .rrcMHl => [0xCB, 0x0E]
  | .rrcA => [0xCB, 0x0F]
  | .rlB => [0xCB, 0x10]
  | .rlC => [0xCB, 0x11]
  | .rlD => [0xCB, 0x12]
  | .rlE => [0xCB, 0x13]
  | .rlH => [0xCB, 0x14]
  | .rlL => [0xCB, 0x15]
  | .rlMHl => [0xCB, 0x16]
  | .rlA => [0xCB, 0x17]
  | .rrB => [0xCB, 0x18]
  | .rrC => [0xCB, 0x19]
  | .rrD => [0xCB, 0x1A]
  | .rrE => [0xCB, 0x1B]
  | .rrH => [0xCB, 0x1C]
  | .rrL => [0xCB, 0x1D]
  | .rrMHl => [0xCB, 0x1E]
  | .rrA => [0xCB, 0x1F]
  | .slaB => [0xCB, 0x20]
  | .slaC => [0xCB, 0x21]
  | .slaD => [0xCB, 0x22]
  | .slaE => [0xCB, 0x23]
  | .slaH => [0xCB, 0x24]
  | .slaL => [0xCB, 0x25]
  | .slaMHl => [0xCB, 0x26]
  | .slaA => [0xCB, 0x27]
  | .sraB => [0xCB, 0x28]
  | .sraC => [0xCB, 0x29]
  | .sraD => [0xCB, 0x2A]
  | .sraE => [0xCB, 0x2B]
  | .sraH => [0xCB, 0x2C]
  | .sraL => [0xCB, 0x2D]
  | .sraMHl => [0xCB, 0x2E]
  | .sraA => [0xCB, 0x2F]
  | .swapB => [0xCB, 0x30]
  | .swapC => [0xCB, 0x31]
  | .swapD => [0xCB, 0x32]
  | .swapE => [0xCB, 0x33]
  | .swapH => [0xCB, 0x34]
  | .swapL => [0xCB, 0x35]
  | .swapMHl => [0xCB, 0x36]
  | .swapA => [0xCB, 0x37]
  | .srlB => [0xCB, 0x38]
  | .srlC => [0xCB, 0x39]
  | .srlD => [0xCB, 0x3A]
  | .srlE => [0xCB, 0x3B]
  | .srlH => [0xCB, 0x3C]
  | .srlL => [0xCB, 0x3D]
  | .srlMHl => [0xCB, 0x3E]
  | .srlA => [0xCB, 0x3F]
  | .bit0B => [0xCB, 0x40]
  | .bit0C => [0xCB, 0x41]
  | .bit0D => [0xCB, 0x42]
  | .bit0E => [0xCB, 0x43]
  | .bit0H => [0xCB, 0x44]
  | .bit0L => [0xCB, 0x45]
  | .bit0MHl => [0xCB, 0x46]
  | .bit0A => [0xCB, 0x47]
  | .bit1B => [0xCB, 0x48]
  | .bit1C => [0xCB, 0x49]
  | .bit1D => [0xCB, 0x4A]
  | .bit1E => [0xCB, 0x4B]
  | .bit1H => [0xCB, 0x4C]
  | .bit1L => [0xCB, 0x4D]
  | .bit1MHl => [0xCB, 0x4E]
  | .bit1A => [0xCB, 0x4F]
  | .bit2B => [0xCB, 0x50]
  | .bit2C => [0xCB, 0x51]
  | .bit2D => [0xCB, 0x52]
  | .bit2E => [0xCB, 0x53]
  | .bit2H => [0xCB, 0x54]
  | .bit2L => [0xCB, 0x55]
  | .bit2MHl => [0xCB, 0x56]
  | .bit2A => [0xCB, 0x57]
  | .bit3B => [0xCB, 0x58]
  | .bit3C => [0xCB, 0x59]
  | .bit3D => [0xCB, 0x5A]
  | .bit3E => [0xCB, 0x5B]
  | .bit3H => [0xCB, 0x5C]
  | .bit3L => [0xCB, 0x5D]
  | .bit3MHl => [0xCB, 0x5E]
  | .bit3A => [0xCB, 0x5F]
  | .bit4B => [0xCB, 0x60]
  | .bit4C => [0xCB, 0x61]
  | .bit4D => [0xCB, 0x62]
  | .bit4E => [0xCB, 0x63]
  | .bit4H => [0xCB, 0x64]
  | .bit4L => [0xCB, 0x65]
  | .bit4MHl => [0xCB, 0x66]
  | .bit4A => [0xCB, 0x67]
  | .bit5B => [0xCB, 0x68]
  | .bit5C => [0xCB, 0x69]
  | .bit5D => [0xCB, 0x6A]
  | .bit5E => [0xCB, 0x6B]
  | .bit5H => [0xCB, 0x6C]
  | .bit5L => [0xCB, 0x6D]
  | .bit5MHl => [0xCB, 0x6E]
  | .bit5A => [0xCB, 0x6F]
  | .bit6B => [0xCB, 0x70]
  | .bit6C => [0xCB, 0x71]
  | .bit6D => [0xCB, 0x72]
  | .bit6E => [0xCB, 0x73]
  | .bit6H => [0xCB, 0x74]
  | .bit6L => [0xCB, 0x75]
  | .bit6MHl => [0xCB, 0x76]
  | .bit6A => [0xCB, 0x77]
  | .bit7B => [0xCB, 0x78]
  | .bit7C => [0xCB, 0x79]
  | .bit7D => [0xCB, 0x7A]
  | .bit7E => [0xCB, 0x7B]
  | .bit7H => [0xCB, 0x7C]
  | .bit7L => [0xCB, 0x7D]
  | .bit7MHl => [0xCB, 0x7E]
  | .bit7A => [0xCB, 0x7F]
  | .res0B => [0xCB, 0x80]
  | .res0C => [0xCB, 0x81]
  | .res0D => [0xCB, 0x82]
  | .res0E => [0xCB, 0x83]
  | .res0H => [0xCB, 0x84]
  | .res0L => [0xCB, 0x85]
  | .res0MHl => [0xCB, 0x86]
  | .res0A => [0xCB, 0x87]
  | .res1B => [0xCB, 0x88]
  | .res1C => [0xCB, 0x89]
  | .res1D => [0xCB, 0x8A]
  | .res1E => [0xCB, 0x8B]
  | .res1H => [0xCB, 0x8C]
  | .res1L => [0xCB, 0x8D]
  | .res1MHl => [0xCB, 0x8E]
  | .res1A => [0xCB, 0x8F]
  | .res2B => [0xCB, 0x90]
  | .res2C => [0xCB, 0x91]
  | .res2D => [0xCB, 0x92]
  | .res2E => [0xCB, 0x93]
  | .res2H => [0xCB, 0x94]
  | .res2L => [0xCB, 0x95]
  | .res2MHl => [0xCB, 0x96]
  | .res2A => [0xCB, 0x97]
  | .res3B => [0xCB, 0x98]
  | .res3C => [0xCB, 0x99]
  | .res3D => [0xCB, 0x9A]
  | .res3E => [0xCB, 0x9B]
  | .res3H => [0xCB, 0x9C]
  | .res3L => [0xCB, 0x9D]
  | .res3MHl => [0xCB, 0x9E]
  | .res3A => [0xCB, 0x9F]
  | .res4B => [0xCB, 0xA0]
  | .res4C => [0xCB, 0xA1]
  | .res4D => [0xCB, 0xA2]
  | .res4E => [0xCB, 0xA3]
  | .res4H => [0xCB, 0xA4]
  | .res4L => [0xCB, 0xA5]
  | .res4MHl => [0xCB, 0xA6]
  | .res4A => [0xCB, 0xA7]
  | .res5B => [0xCB, 0xA8]
  | .res5C => [0xCB, 0xA9]
  | .res5D => [0xCB, 0xAA]
  | .res5E => [0xCB, 0xAB]
  | .res5H => [0xCB, 0xAC]
  | .res5L => [0xCB, 0xAD]
  | .res5MHl => [0xCB, 0xAE]
  | .res5A => [0xCB, 0xAF]
  | .res6B => [0xCB, 0xB0]
  | .res6C => [0xCB, 0xB1]
  | .res6D => [0xCB, 0xB2]
  | .res6E => [0xCB, 0xB3]
  | .res6H => [0xCB, 0xB4]
  | .res6L => [0xCB, 0xB5]
  | .res6MHl => [0xCB, 0xB6]
  | .res6A => [0xCB, 0xB7]
  | .res7B => [0xCB, 0xB8]
  | .res7C => [0xCB, 0xB9]
  | .res7D => [0xCB, 0xBA]
  | .res7E => [0xCB, 0xBB]
  | .res7H => [0xCB, 0xBC]
  | .res7L => [0xCB, 0xBD]
  | .res7MHl => [0xCB, 0xBE]
  | .res7A => [0xCB, 0xBF]
  | .set0B => [0xCB, 0xC0]
  | .set0C => [0xCB, 0xC1]
  | .set0D => [0xCB, 0xC2]
  | .set0E => [0xCB, 0xC3]
  | .set0H => [0xCB, 0xC4]
  | .set0L => [0xCB, 0xC5]
  | .set0MHl => [0xCB, 0xC6]
  | .set0A => [0xCB, 0xC7]
  | .set1B => [0xCB, 0xC8]
  | .set1C => [0xCB, 0xC9]
  | .set1D => [0xCB, 0xCA]
  | .set1E => [0xCB, 0xCB]
  | .set1H => [0xCB, 0xCC]
  | .set1L => [0xCB, 0xCD]
  | .set1MHl => [0xCB, 0xCE]
  | .set1A => [0xCB, 0xCF]
  | .set2B => [0xCB, 0xD0]
  | .set2C => [0xCB, 0xD1]
  | .set2D => [0xCB, 0xD2]
  | .set2E => [0xCB, 0xD3]
  | .set2H => [0xCB, 0xD4]
  | .set2L => [0xCB, 0xD5]
  | .set2MHl => [0xCB, 0xD6]
  | .set2A => [0xCB, 0xD7]
  | .set3B => [0xCB, 0xD8]
  | .set3C => [0xCB, 0xD9]
  | .set3D => [0xCB, 0xDA]
  | .set3E => [0xCB, 0xDB]
  | .set3H => [0xCB, 0xDC]
  | .set3L => [0xCB, 0xDD]
  | .set3MHl => [0xCB, 0xDE]
  | .set3A => [0xCB, 0xDF]
  | .set4B => [0xCB, 0xE0]
  | .set4C => [0xCB, 0xE1]
  | .set4D => [0xCB, 0xE2]
  | .set4E => [0xCB, 0xE3]
  | .set4H => [0xCB, 0xE4]
  | .set4L => [0xCB, 0xE5]
  | .set4MHl => [0xCB, 0xE6]
  | .set4A => [0xCB, 0xE7]
  | .set5B => [0xCB, 0xE8]
  | .set5C => [0xCB, 0xE9]
  | .set5D => [0xCB, 0xEA]
  | .set5E => [0xCB, 0xEB]
  | .set5H => [0xCB, 0xEC]
  | .set5L => [0xCB, 0xED]
  | .set5MHl => [0xCB, 0xEE]
  | .set5A => [0xCB, 0xEF]
  | .set6B => [0xCB, 0xF0]
  | .set6C => [0xCB, 0xF1]
  | .set6D => [0xCB, 0xF2]
  | .set6E => [0xCB, 0xF3]
  | .set6H => [0xCB, 0xF4]
  | .set6L => [0xCB, 0xF5]
  | .set6MHl => [0xCB, 0xF6]
  | .set6A => [0xCB, 0xF7]
  | .set7B => [0xCB, 0xF8]
  | .set7C => [0xCB, 0xF9]
  | .set7D => [0xCB, 0xFA]
  | .set7E => [0xCB, 0xFB]
  | .set7H => [0xCB, 0xFC]
  | .set7L => [0xCB, 0xFD]
  | .set7MHl => [0xCB, 0xFE]
  | .set7A => [0xCB, 0xFF]

/-- The bytes of an instruction where STOP occupies `P_STOP_LEN` bytes; those after its opcode byte,
which are not examined, are written 0x00 (R297; log 6). -/
def encodeWith (cfg : Config) (i : Instr) : List Byte :=
  match i with
  | .stop => 0x10 :: List.replicate (cfg.stopLen - 1) 0x00
  | i => encode i

/-- The three instruction bytes of a word of the opcode table. An 8-bit row is the first byte. A
16-bit row is a CB row, which R98 numbers `byte0 * 256 + byte1`, so its prefix byte is the high
one; a number whose high byte is not 0xCB is read with its first byte low (log 7). -/
def tableWordBytes (nbits w : Nat) : Byte × Byte × Byte :=
  if nbits = 16 ∧ w / 256 % 256 = 0xCB then (BitVec.ofNat 8 (w / 256), BitVec.ofNat 8 w, 0)
  else (BitVec.ofNat 8 w, BitVec.ofNat 8 (w / 256), BitVec.ofNat 8 (w / 65536))

/-- The instruction the decoder reads from a word of the opcode table, operand bytes the table
gives no bits being 0. -/
def decodeTableWord (nbits w : Nat) : Option Instr :=
  match tableWordBytes nbits w with
  | (b0, b1, b2) =>
    match decode [b0, b1, b2] with
    | .ok (i, _) => some i
    | .error _ => none

end Sys2Proof
end

