-- ==== Sys2Proof/Machine/Flags.lean ====
section
/-! DEFINITION. The flags of F and every flag and result computation of the spec: the arithmetic
helpers of R161 and R162, the logic flags of R163, INC and DEC (R189, R191), the 16-bit additions
(R200), the rotates and shifts (R215), DAA (R292). Nothing here touches the state. -/
namespace Sys2Proof.Machine

/-- The bit of F a flag is (R27). -/
def flagMask : Flag → Byte
  | .z => 0x80
  | .n => 0x40
  | .h => 0x20
  | .c => 0x10

/-- The value of one flag of F (R27). -/
def getFlag (f : Byte) (fl : Flag) : Bool := (f &&& flagMask fl) != 0

/-- F with one flag written. "Setting/clearing one flag never perturbs the others or the low
(unused) nibble of F" (R21). -/
def putFlag (f : Byte) (fl : Flag) (v : Bool) : Byte :=
  if v then f ||| flagMask fl else f &&& ~~~ (flagMask fl)

/-- `{Z, N, H, C, 0, 0, 0, 0}` (R27). -/
def packFlags (z n h c : Bool) : Byte :=
  putFlag (putFlag (putFlag (putFlag 0x00 .z z) .n n) .h h) .c c

/-- The low nibble of a byte, as a number. -/
def lowNibble (v : Byte) : Nat := v.toNat % 16

/-- What an 8-bit arithmetic helper returns: `(res, Z, N, H, C)`. -/
structure AluResult where
  res : Byte
  z : Bool
  n : Bool
  h : Bool
  c : Bool
  deriving DecidableEq, Repr

/-- `add8(a, b, cin)` (R161). -/
def add8 (a b : Byte) (cin : Bool) : AluResult :=
  let sum := a.toNat + b.toNat + cin.toNat
  let res := BitVec.ofNat 8 sum
  { res := res
    z := res == 0
    n := false
    h := decide (lowNibble a + lowNibble b + cin.toNat > 0x0F)
    c := decide (sum > 0xFF) }

/-- `sub8(a, b, cin)` (R162); H and C are borrows (the spec's resolution C1). -/
def sub8 (a b : Byte) (cin : Bool) : AluResult :=
  let diff : Int := (a.toNat : Int) - b.toNat - cin.toNat
  let res := BitVec.ofInt 8 diff
  { res := res
    z := res == 0
    n := true
    h := decide (lowNibble a < lowNibble b + cin.toNat)
    c := decide (a.toNat < b.toNat + cin.toNat) }

/-- A logic operation's result byte with its flags: Z from the result, N and C 0, H given (R163). -/
def logic8 (res : Byte) (h : Bool) : AluResult :=
  { res := res, z := res == 0, n := false, h := h, c := false }

/-- The result and flags of the eight ALU operations; `cin` is F.C before the instruction, which
ADC and SBC alone use (R161 to R163). -/
def aluCompute (op : AluOp) (a v : Byte) (cin : Bool) : AluResult :=
  match op with
  | .add => add8 a v false
  | .adc => add8 a v cin
  | .sub => sub8 a v false
  | .sbc => sub8 a v cin
  | .and => logic8 (a &&& v) true
  | .xor => logic8 (a ^^^ v) false
  | .or => logic8 (a ||| v) false
  | .cp => sub8 a v false

/-- Whether the rule of the operation writes F whole, `F <- {Z, N, H, C, 0, 0, 0, 0}` (the
arithmetic operations), rather than flag by flag (the logic operations, R177). -/
def writesWholeF : AluOp → Bool
  | .add | .adc | .sub | .sbc | .cp => true
  | .and | .xor | .or => false

/-- H of INC: carry out of bit 3 of `v + 1` (R189). -/
def incHalf (v : Byte) : Bool := lowNibble v == 0x0F

/-- H of DEC: borrow from bit 4 in `v - 1` (R191). -/
def decHalf (v : Byte) : Bool := lowNibble v == 0x00

/-- H of a 16-bit addition: the carry out of bit 11 (R200). -/
def half16 (a b : Word) : Bool := decide (a.toNat % 4096 + b.toNat % 4096 > 0x0FFF)

/-- C of a 16-bit addition: the carry out of bit 15 (R200). -/
def carry16 (a b : Word) : Bool := decide (a.toNat + b.toNat > 0xFFFF)

/-- The result and the carry-out bit of the rotates, the shifts and SWAP; `cin` is F.C before the
instruction, which RL and RR alone use (the table of R215). -/
def shiftCompute (op : ShiftOp) (v : Byte) (cin : Bool) : Byte × Bool :=
  let bit0 : Byte := if v.getLsbD 0 then 1 else 0
  let bit7 : Byte := if v.getLsbD 7 then 1 else 0
  let carry : Byte := if cin then 1 else 0
  match op with
  | .rlc => ((v <<< 1) ||| bit7, v.getLsbD 7)
  | .rrc => ((v >>> 1) ||| (bit0 <<< 7), v.getLsbD 0)
  | .rl => ((v <<< 1) ||| carry, v.getLsbD 7)
  | .rr => ((v >>> 1) ||| (carry <<< 7), v.getLsbD 0)
  | .sla => (v <<< 1, v.getLsbD 7)
  | .sra => ((v >>> 1) ||| (v &&& 0x80), v.getLsbD 0)
  | .swap => (((v &&& 0x0F) <<< 4) ||| (v >>> 4), false)
  | .srl => (v >>> 1, v.getLsbD 0)

/-- DAA: the corrected accumulator and the carry, from A, F.N, F.H, F.C (R292). -/
def daaCompute (a : Byte) (n h c : Bool) : Byte × Bool :=
  if n then
    let adj : Byte := (if h then 0x06 else 0x00) + (if c then 0x60 else 0x00)
    (a - adj, c)
  else
    let low := h || decide (lowNibble a > 0x09)
    let high := c || decide (a.toNat > 0x99)
    let adj : Byte := (if low then 0x06 else 0x00) + (if high then 0x60 else 0x00)
    (a + adj, high)

end Sys2Proof.Machine
end

