-- ==== Sys2Proof/Machine/State.lean ====
section
/-! DEFINITION. The state of the machine: the tuple (A, F, B, C, D, E, H, L, pc, SP, IME, HALTED,
FAULT, MEM) of spec/10_state.md "and nothing else", as plain data, and the state after reset. -/
namespace Sys2Proof.Machine

/-- The 65536 bytes of MEM (R35) as a listing of (address, byte) pairs; what an address that is not
listed reads as is `Config.unlistedByte` (log 1, log 11). -/
abbrev Memory := List Host.Cell

/-- The two faults of R310, exactly (R315). They are the values of the FAULT latch. The step that
raises one is a next state with the latch set (R312) and every later step is the identity (R313),
so `step` never answers `Host.Outcome.fault`; that is how the spec keeps the fault as state (R33;
log 2, safe). -/
inductive Fault where
  /-- Raised by a step that fetches one of the eleven undefined first bytes; records the byte and
  its address (R311). The spec's own effect, so safe. -/
  | unknownInstruction (byte : Byte) (pc : Word)
  /-- Raised by PUSH, CALL, a taken CALL cc, RST and interrupt entry when SP = 0x0000 as the push
  begins (R141, R314). The spec's own effect, so safe. -/
  | stackFault
  deriving DecidableEq, Repr

/-- Why the model would have no answer. -/
inductive Refusal where
  /-- Raised by an arm of `exec` whose instruction has no meaning yet; every instruction has one, so
  nothing raises it. Safe: a refusal claims nothing of the hardware. -/
  | notModelled (mnemonic : String)
  deriving DecidableEq, Repr

/-- The state of the machine (spec/10_state.md). -/
structure State where
  /-- The accumulator (R20). -/
  a : Byte
  /-- The flag register: bit 7 Z, bit 6 N, bit 5 H, bit 4 C, bits 3 to 0 zero (R21, R27). -/
  f : Byte
  b : Byte
  c : Byte
  d : Byte
  e : Byte
  h : Byte
  l : Byte
  /-- At a step boundary, the address of the next instruction's first byte (R24). -/
  pc : Word
  /-- The stack pointer: the last byte pushed (R26). -/
  sp : Word
  /-- The interrupt-master-enable (R30). -/
  ime : Bool
  /-- Set by HALT and STOP; while set, no instruction is fetched (R31). -/
  halted : Bool
  /-- The fault latch (R33). -/
  fault : Option Fault
  /-- The memory; IE is its byte 0xFFFF and IF its byte 0xFF0F (R32, R35). -/
  mem : Memory
  deriving DecidableEq, Repr

/-- What a step or an instruction's meaning answers. -/
abbrev Result := Host.Outcome State Fault Refusal

/-- The state after reset with the parameters `cfg` and the memory `initMem` that the host supplies
(R38, R350). -/
def State.resetWith (cfg : Config) (initMem : Memory) : State :=
  { a := 0x00, f := 0x00, b := 0x00, c := 0x00, d := 0x00, e := 0x00, h := 0x00, l := 0x00
    pc := cfg.resetPc, sp := cfg.resetSp
    ime := false, halted := false, fault := none, mem := initMem }

/-- The state after reset at the spec's default parameters, with no image loaded: memory lists
nothing (log 1). -/
def State.reset : State := State.resetWith Config.default []

end Sys2Proof.Machine
end

