-- ==== Sys2Proof/Machine/Memory.lean ====
section
/-! DEFINITION. Memory as a listing in one canonical form, so that equal memories are equal data:
addresses strictly rising and inside the address space, no byte listed that an unlisted address
reads as anyway (log 11). Every access is one byte (R52); a word is two of them (R55). -/
namespace Sys2Proof.Machine

/-- The byte at an address: "a read returns the byte last written to that address" (R50). -/
def Memory.read : Memory → Word → Byte
  | [], _ => Config.unlistedByte
  | (k, v) :: rest, a => if k = a.toNat then v else Memory.read rest a

/-- List byte `v` under key `k`, or unlist `k` where `v` is what an unlisted address reads as. -/
def Memory.put : Memory → Nat → Byte → Memory
  | [], k, v => if v = Config.unlistedByte then [] else [(k, v)]
  | (j, w) :: rest, k, v =>
    if k < j then
      if v = Config.unlistedByte then (j, w) :: rest else (k, v) :: (j, w) :: rest
    else if k = j then
      if v = Config.unlistedByte then rest else (k, v) :: rest
    else (j, w) :: Memory.put rest k v

/-- "A write replaces exactly that one byte" (R50). -/
def Memory.write (m : Memory) (a : Word) (v : Byte) : Memory := m.put a.toNat v

/-- Every key is at least `low`, keys rise strictly, every key is an address, no byte is the
unlisted one. -/
def Memory.wfFrom : Nat → Memory → Bool
  | _, [] => true
  | low, (k, v) :: rest =>
    decide (low ≤ k) && decide (k < 65536) && decide (v ≠ Config.unlistedByte) &&
      Memory.wfFrom (k + 1) rest

/-- The canonical form. -/
def Memory.wf (m : Memory) : Bool := Memory.wfFrom 0 m

/-- `MemRead(addr, 2)`: the low byte at the lower address (R10, R55). -/
def Memory.readWord (m : Memory) (a : Word) : Word := pair (m.read (a + 1)) (m.read a)

/-- `MemWrite(addr, 2, v)`: the low byte at `a`, then the high byte at `a + 1` (R10, R55). -/
def Memory.writeWord (m : Memory) (a : Word) (v : Word) : Memory :=
  (m.write a (lo v)).write (a + 1) (hi v)

end Sys2Proof.Machine
end

