-- ==== Sys2Proof/Machine/Ops.lean ====
section
/-! DEFINITION. The named operations over registers and memory that every meaning is made of: one
place that reads and writes registers, pairs, flags and memory, the two stack primitives (R141,
R142), raising a fault (R312), interrupt entry (R324) and the return from one (R276). -/
namespace Sys2Proof.Machine.State

/-- `r8[i]` (R9). -/
def getR8 (s : State) : Reg8 → Byte
  | .b => s.b
  | .c => s.c
  | .d => s.d
  | .e => s.e
  | .h => s.h
  | .l => s.l
  | .a => s.a

/-- `r8[i] <- v` (R9). -/
def setR8 (s : State) (r : Reg8) (v : Byte) : State :=
  match r with
  | .b => { s with b := v }
  | .c => { s with c := v }
  | .d => { s with d := v }
  | .e => { s with e := v }
  | .h => { s with h := v }
  | .l => { s with l := v }
  | .a => { s with a := v }

/-- `BC = {B, C}` (R22). -/
def bc (s : State) : Word := pair s.b s.c

/-- `DE = {D, E}` (R22). -/
def de (s : State) : Word := pair s.d s.e

/-- `HL = {H, L}` (R22). -/
def hl (s : State) : Word := pair s.h s.l

/-- `AF = {A, F}`; "Reading AF always yields a value whose bits 3 to 0 are 0" (R22). -/
def af (s : State) : Word := pair s.a (s.f &&& 0xF0)

/-- `HL <- v` (R22). -/
def setHl (s : State) (v : Word) : State := { s with h := hi v, l := lo v }

/-- `r16[i]` (R9). -/
def getR16 (s : State) : Reg16 → Word
  | .bc => s.bc
  | .de => s.de
  | .hl => s.hl
  | .sp => s.sp

/-- `r16[i] <- v`: the high byte to the first register, the low byte to the second (R22). -/
def setR16 (s : State) (r : Reg16) (v : Word) : State :=
  match r with
  | .bc => { s with b := hi v, c := lo v }
  | .de => { s with d := hi v, e := lo v }
  | .hl => s.setHl v
  | .sp => { s with sp := v }

/-- `r16stk[i]` (R9). -/
def getStk (s : State) : RegStk → Word
  | .bc => s.bc
  | .de => s.de
  | .hl => s.hl
  | .af => s.af

/-- `r16stk[i] <- v`; writing AF sets `F <- v[7:0] & 0xF0` (R22, R149). -/
def setStk (s : State) (r : RegStk) (v : Word) : State :=
  match r with
  | .bc => { s with b := hi v, c := lo v }
  | .de => { s with d := hi v, e := lo v }
  | .hl => s.setHl v
  | .af => { s with a := hi v, f := lo v &&& 0xF0 }

/-- A flag of F (R27). -/
def flag (s : State) (fl : Flag) : Bool := getFlag s.f fl

/-- `F.x <- v`: the other flags and the low nibble stay (R21). -/
def setFlag (s : State) (fl : Flag) (v : Bool) : State := { s with f := putFlag s.f fl v }

/-- The four flags written one after another. -/
def setFlags (s : State) (z n h c : Bool) : State :=
  (((s.setFlag .z z).setFlag .n n).setFlag .h h).setFlag .c c

/-- `F <- {Z, N, H, C, 0, 0, 0, 0}`. -/
def setWholeF (s : State) (z n h c : Bool) : State := { s with f := packFlags z n h c }

/-- `MemRead(a, 1)` (R10). -/
def readByte (s : State) (a : Word) : Byte := s.mem.read a

/-- `MemWrite(a, 1, v)` (R10). -/
def writeByte (s : State) (a : Word) (v : Byte) : State := { s with mem := s.mem.write a v }

/-- `MemWrite(a, 2, v)` (R10, R55). -/
def writeWord (s : State) (a v : Word) : State := { s with mem := s.mem.writeWord a v }

/-- `pc <- next`, for an instruction of `len` bytes; modulo 65536 (R10, R25). -/
def advance (s : State) (len : Nat) : State := { s with pc := s.pc + BitVec.ofNat 16 len }

/-- `next`, the address after an instruction of `len` bytes at `pc` (R10). -/
def nextPc (s : State) (len : Nat) : Word := s.pc + BitVec.ofNat 16 len

/-- `pc <- target`. -/
def jump (s : State) (target : Word) : State := { s with pc := target }

/-- Raise a fault: the step "only sets FAULT" (R312). -/
def raise (s : State) (f : Fault) : State := { s with fault := some f }

/-- "Decrement SP, store" one byte (R141). -/
def pushByte (s : State) (v : Byte) : State :=
  { s with sp := s.sp - 1, mem := s.mem.write (s.sp - 1) v }

/-- The body of `Push16(v)`: high byte first, then low byte (R141). -/
def pushWord (s : State) (v : Word) : State := (s.pushByte (hi v)).pushByte (lo v)

/-- `Push16(v)` and what follows it: the stack check "first, before any change"; past it, the push
and then `after` (R141, R314). -/
def push16Then (s : State) (v : Word) (after : State → State) : State :=
  if s.sp = 0x0000 then s.raise .stackFault else after (s.pushWord v)

/-- The word `Pop16()` returns: low byte at SP, high byte at SP + 1, which is `MemRead(SP, 2)` (R56,
R142). -/
def popValue (s : State) : Word := s.mem.readWord s.sp

/-- What `Pop16()` leaves: SP two higher, memory unchanged (R142). -/
def popped (s : State) : State := { s with sp := s.sp + 1 + 1 }

/-- The address of IE (R32). -/
def addrIE : Word := 0xFFFF

/-- The address of IF (R32). -/
def addrIF : Word := 0xFF0F

/-- `pending <- MEM[0xFFFF] & MEM[0xFF0F] & 0x1F` (R322). -/
def pendingInterrupts (s : State) : Byte := s.readByte addrIE &&& s.readByte addrIF &&& 0x1F

/-- `take <- P_IRQ_DISPATCH and IME == 1 and pending != 0` (R322). -/
def takesInterrupt (cfg : Config) (s : State) : Bool :=
  s.ime && cfg.irqDispatch && (s.pendingInterrupts != 0)

/-- The least i in 0..4 with `pending[i] == 1` (R323), for a `pending` that is not 0. -/
def lowestBit (pending : Byte) : Fin 5 :=
  if pending.getLsbD 0 then 0
  else if pending.getLsbD 1 then 1
  else if pending.getLsbD 2 then 2
  else if pending.getLsbD 3 then 3
  else 4

/-- `vector(k) = 0x0040 + 8*k` (R321). -/
def interruptVector (k : Fin 5) : Word := 0x0040 + BitVec.ofNat 16 (8 * k.val)

/-- `MEM[0xFF0F] <- MEM[0xFF0F] & ~(1 << k)` (R324). -/
def clearRequest (s : State) (k : Fin 5) : State :=
  s.writeByte addrIF (s.readByte addrIF &&& ~~~ (bitMask (k.castLE (by decide))))

/-- "Disable further interrupts" and "wake from halted" (R324). -/
def maskAndWake (s : State) : State := { s with ime := false, halted := false }

/-- Interrupt entry (R324): the stack check, before anything; then the one IF bit, IME, HALTED, the
push of pc, and pc to the vector. -/
def interruptEntry (s : State) : State :=
  if s.sp = 0x0000 then s.raise .stackFault
  else
    let k := lowestBit s.pendingInterrupts
    ((s.clearRequest k).maskAndWake.pushWord s.pc).jump (interruptVector k)

/-- `pc <- Pop16()` (R274). -/
def returnToCaller (s : State) : State := s.popped.jump s.popValue

/-- The return from an interrupt: `pc <- Pop16()`, `IME <- 1` (R276, R325). -/
def returnFromInterrupt (s : State) : State := { s.returnToCaller with ime := true }

end Sys2Proof.Machine.State
end

