-- ==== Sys2Proof/Machine/Operands.lean ====
section
/-! DEFINITION. The operand forms: the eight 8-bit operand positions, the zero page, the conditions,
the RST targets, and the code tables of R86 that the CB prefix reads its second byte with. -/
namespace Sys2Proof.Machine

/-- The value of an operand position: a register, or the byte at HL (R86). -/
def State.getOperand (s : State) : Operand8 → Byte
  | .reg r => s.getR8 r
  | .memHl => s.readByte s.hl

/-- Write an operand position: a register, or the byte at HL (R86). -/
def State.setOperand (s : State) (o : Operand8) (v : Byte) : State :=
  match o with
  | .reg r => s.setR8 r v
  | .memHl => s.writeByte s.hl v

/-- `0xFF00 + offset`, the zero page (R85, R122). -/
def zeroPage (offset : Byte) : Word := 0xFF00 + zext16 offset

/-- `cond(cc)` (R265). -/
def State.cond (s : State) : Cond → Bool
  | .nz => !s.flag .z
  | .z => s.flag .z
  | .nc => !s.flag .c
  | .c => s.flag .c

/-- The RST target `n = 8 * y` (R273). -/
def rstTarget (y : Fin 8) : Word := BitVec.ofNat 16 (8 * y.val)

/-- Operand positions by code (R86, column `r8`). -/
def operandOfCode : Fin 8 → Operand8
  | 0 => .reg .b
  | 1 => .reg .c
  | 2 => .reg .d
  | 3 => .reg .e
  | 4 => .reg .h
  | 5 => .reg .l
  | 6 => .memHl
  | 7 => .reg .a

/-- The shift operations by code (R86, last column). -/
def shiftOfCode : Fin 8 → ShiftOp
  | 0 => .rlc
  | 1 => .rrc
  | 2 => .rl
  | 3 => .rr
  | 4 => .sla
  | 5 => .sra
  | 6 => .swap
  | 7 => .srl

/-- The ALU operations by code (R86). -/
def aluOfCode : Fin 8 → AluOp
  | 0 => .add
  | 1 => .adc
  | 2 => .sub
  | 3 => .sbc
  | 4 => .and
  | 5 => .xor
  | 6 => .or
  | 7 => .cp

/-- The field `x = op[7:6]` of an opcode byte (R84). -/
def fieldX (op : Byte) : Fin 4 := (op.extractLsb' 6 2).toFin

/-- The field `y = op[5:3]` (R84). -/
def fieldY (op : Byte) : Fin 8 := (op.extractLsb' 3 3).toFin

/-- The field `z = op[2:0]` (R84). -/
def fieldZ (op : Byte) : Fin 8 := (op.extractLsb' 0 3).toFin

end Sys2Proof.Machine
end

