-- ==== Sys2Proof/Machine/Load16.lean ====
section
/-! DEFINITION. The 16-bit loads, PUSH and POP (spec/41_load16.md, R140 to R149). -/
namespace Sys2Proof.Machine

/-- A load into a 16-bit register: `r16[p] <- v`, `pc <- next` (R143, R144). -/
def loadPair (r : Reg16) (v : Word) (len : Nat) (s : State) : State := (s.setR16 r v).advance len

/-- The flags of SP plus a displacement: Z and N cleared, H and C the carries out of bit 11 and
bit 15 of the unsigned 16-bit addition of SP and the sign-extended displacement (R145, R202). -/
def flagsOfSpPlus (e8 : Byte) (s : State) : State :=
  s.setFlags false false (half16 s.sp (sext16 e8)) (carry16 s.sp (sext16 e8))

/-- `LD HL,SP+e8` (R145). -/
def loadHlSpPlus (e8 : Byte) (s : State) : State :=
  (flagsOfSpPlus e8 (s.setHl (s.sp + sext16 e8))).advance 2

/-- `LD (a16),HL`: L at a16, then H at a16 + 1, which is `MemWrite(a16, 2, HL)` (R55, R146). -/
def storeHl (a16 : Word) (s : State) : State :=
  (s.writeWord a16 s.hl).advance 3

/-- `PUSH rr` (R147). -/
def pushPair (r : RegStk) (s : State) : State :=
  s.push16Then (s.getStk r) (fun t => t.advance 1)

/-- `POP rr`, `POP AF` masking F (R148, R149). -/
def popPair (r : RegStk) (s : State) : State := (s.popped.setStk r s.popValue).advance 1

/-- `LD BC,d16` (R143). -/
def execLdBcD16 (d16 : Word) (s : State) : Result := .next (loadPair .bc d16 3 s)

/-- `LD DE,d16` (R143). -/
def execLdDeD16 (d16 : Word) (s : State) : Result := .next (loadPair .de d16 3 s)

/-- `LD HL,d16` (R143). -/
def execLdHlD16 (d16 : Word) (s : State) : Result := .next (loadPair .hl d16 3 s)

/-- `LD SP,d16` (R143). -/
def execLdSpD16 (d16 : Word) (s : State) : Result := .next (loadPair .sp d16 3 s)

/-- `LD SP,HL` (R144). -/
def execLdSpHl (s : State) : Result := .next (loadPair .sp s.hl 1 s)

/-- `LD HL,SP+e8` (R145). -/
def execLdHlSpE8 (e8 : Byte) (s : State) : Result := .next (loadHlSpPlus e8 s)

/-- `LD (a16),HL` (R146). -/
def execLdMA16Hl (a16 : Word) (s : State) : Result := .next (storeHl a16 s)

/-- `PUSH BC` (R147). -/
def execPushBc (s : State) : Result := .next (pushPair .bc s)

/-- `PUSH DE` (R147). -/
def execPushDe (s : State) : Result := .next (pushPair .de s)

/-- `PUSH HL` (R147). -/
def execPushHl (s : State) : Result := .next (pushPair .hl s)

/-- `PUSH AF` (R147). -/
def execPushAf (s : State) : Result := .next (pushPair .af s)

/-- `POP BC` (R148). -/
def execPopBc (s : State) : Result := .next (popPair .bc s)

/-- `POP DE` (R148). -/
def execPopDe (s : State) : Result := .next (popPair .de s)

/-- `POP HL` (R148). -/
def execPopHl (s : State) : Result := .next (popPair .hl s)

/-- `POP AF` (R149). -/
def execPopAf (s : State) : Result := .next (popPair .af s)

end Sys2Proof.Machine
end

