-- ==== Sys2Proof/Machine/Alu16.lean ====
section
/-! DEFINITION. The 16-bit arithmetic (spec/43_alu16.md, R200 to R204). -/
namespace Sys2Proof.Machine

/-- `ADD HL,rr`: N 0, H and C from bits 11 and 15, Z unchanged (R201). -/
def addHl (r : Reg16) (s : State) : State :=
  let a := s.hl
  let b := s.getR16 r
  ((((s.setHl (a + b)).setFlag .n false).setFlag .h (half16 a b)).setFlag .c (carry16 a b)).advance 1

/-- `ADD SP,e8`: the flags from SP as it was, then SP (R202). -/
def addSp (e8 : Byte) (s : State) : State :=
  ((flagsOfSpPlus e8 s).setR16 .sp (s.sp + sext16 e8)).advance 2

/-- `INC rr`: no flag (R203). -/
def incPair (r : Reg16) (s : State) : State := (s.setR16 r (s.getR16 r + 1)).advance 1

/-- `DEC rr`: no flag (R204). -/
def decPair (r : Reg16) (s : State) : State := (s.setR16 r (s.getR16 r - 1)).advance 1

/-- `ADD HL,BC` (R201). -/
def execAddHlBc (s : State) : Result := .next (addHl .bc s)

/-- `ADD HL,DE` (R201). -/
def execAddHlDe (s : State) : Result := .next (addHl .de s)

/-- `ADD HL,HL` (R201). -/
def execAddHlHl (s : State) : Result := .next (addHl .hl s)

/-- `ADD HL,SP` (R201). -/
def execAddHlSp (s : State) : Result := .next (addHl .sp s)

/-- `ADD SP,e8` (R202). -/
def execAddSpE8 (e8 : Byte) (s : State) : Result := .next (addSp e8 s)

/-- `INC BC` (R203). -/
def execIncBc (s : State) : Result := .next (incPair .bc s)

/-- `INC DE` (R203). -/
def execIncDe (s : State) : Result := .next (incPair .de s)

/-- `INC HL` (R203). -/
def execIncHl (s : State) : Result := .next (incPair .hl s)

/-- `INC SP` (R203). -/
def execIncSp (s : State) : Result := .next (incPair .sp s)

/-- `DEC BC` (R204). -/
def execDecBc (s : State) : Result := .next (decPair .bc s)

/-- `DEC DE` (R204). -/
def execDecDe (s : State) : Result := .next (decPair .de s)

/-- `DEC HL` (R204). -/
def execDecHl (s : State) : Result := .next (decPair .hl s)

/-- `DEC SP` (R204). -/
def execDecSp (s : State) : Result := .next (decPair .sp s)

end Sys2Proof.Machine
end

