-- ==== Sys2Proof/Machine/Alu8.lean ====
section
/-! DEFINITION. The 8-bit arithmetic and logic (spec/42_alu8.md, R160 to R192). -/
namespace Sys2Proof.Machine

/-- The flags of an ALU operation, written as its rule writes them: F whole, or flag by flag. -/
def setAluFlags (op : AluOp) (r : AluResult) (s : State) : State :=
  if writesWholeF op then s.setWholeF r.z r.n r.h r.c else s.setFlags r.z r.n r.h r.c

/-- An ALU operation on A and `v`: A takes the result but for CP, which "never stores to the
accumulator"; the flags; `pc <- next` (R165 to R188). -/
def aluApply (op : AluOp) (v : Byte) (len : Nat) (s : State) : State :=
  let r := aluCompute op s.a v (s.flag .c)
  (setAluFlags op r (if op = .cp then s else s.setR8 .a r.res)).advance len

/-- INC of an operand position: Z, N and H written, C unchanged (R189, R190). -/
def incOperand (o : Operand8) (s : State) : State :=
  let v := s.getOperand o
  let res := v + 1
  ((((s.setOperand o res).setFlag .z (res == 0)).setFlag .n false).setFlag .h (incHalf v)).advance 1

/-- DEC of an operand position: Z, N and H written, C unchanged (R191, R192). -/
def decOperand (o : Operand8) (s : State) : State :=
  let v := s.getOperand o
  let res := v - 1
  ((((s.setOperand o res).setFlag .z (res == 0)).setFlag .n true).setFlag .h (decHalf v)).advance 1

/-- `ADD A,B` (R165). -/
def execAddAB (s : State) : Result := .next (aluApply .add (s.getOperand (.reg .b)) 1 s)

/-- `ADD A,C` (R165). -/
def execAddAC (s : State) : Result := .next (aluApply .add (s.getOperand (.reg .c)) 1 s)

/-- `ADD A,D` (R165). -/
def execAddAD (s : State) : Result := .next (aluApply .add (s.getOperand (.reg .d)) 1 s)

/-- `ADD A,E` (R165). -/
def execAddAE (s : State) : Result := .next (aluApply .add (s.getOperand (.reg .e)) 1 s)

/-- `ADD A,H` (R165). -/
def execAddAH (s : State) : Result := .next (aluApply .add (s.getOperand (.reg .h)) 1 s)

/-- `ADD A,L` (R165). -/
def execAddAL (s : State) : Result := .next (aluApply .add (s.getOperand (.reg .l)) 1 s)

/-- `ADD A,(HL)` (R166). -/
def execAddAMHl (s : State) : Result := .next (aluApply .add (s.getOperand .memHl) 1 s)

/-- `ADD A,A` (R165). -/
def execAddAA (s : State) : Result := .next (aluApply .add (s.getOperand (.reg .a)) 1 s)

/-- `ADD A,d8` (R167). -/
def execAddAD8 (d8 : Byte) (s : State) : Result := .next (aluApply .add d8 2 s)

/-- `ADC A,B` (R168). -/
def execAdcAB (s : State) : Result := .next (aluApply .adc (s.getOperand (.reg .b)) 1 s)

/-- `ADC A,C` (R168). -/
def execAdcAC (s : State) : Result := .next (aluApply .adc (s.getOperand (.reg .c)) 1 s)

/-- `ADC A,D` (R168). -/
def execAdcAD (s : State) : Result := .next (aluApply .adc (s.getOperand (.reg .d)) 1 s)

/-- `ADC A,E` (R168). -/
def execAdcAE (s : State) : Result := .next (aluApply .adc (s.getOperand (.reg .e)) 1 s)

/-- `ADC A,H` (R168). -/
def execAdcAH (s : State) : Result := .next (aluApply .adc (s.getOperand (.reg .h)) 1 s)

/-- `ADC A,L` (R168). -/
def execAdcAL (s : State) : Result := .next (aluApply .adc (s.getOperand (.reg .l)) 1 s)

/-- `ADC A,(HL)` (R169). -/
def execAdcAMHl (s : State) : Result := .next (aluApply .adc (s.getOperand .memHl) 1 s)

/-- `ADC A,A` (R168). -/
def execAdcAA (s : State) : Result := .next (aluApply .adc (s.getOperand (.reg .a)) 1 s)

/-- `ADC A,d8` (R170). -/
def execAdcAD8 (d8 : Byte) (s : State) : Result := .next (aluApply .adc d8 2 s)

/-- `SUB A,B` (R171). -/
def execSubAB (s : State) : Result := .next (aluApply .sub (s.getOperand (.reg .b)) 1 s)

/-- `SUB A,C` (R171). -/
def execSubAC (s : State) : Result := .next (aluApply .sub (s.getOperand (.reg .c)) 1 s)

/-- `SUB A,D` (R171). -/
def execSubAD (s : State) : Result := .next (aluApply .sub (s.getOperand (.reg .d)) 1 s)

/-- `SUB A,E` (R171). -/
def execSubAE (s : State) : Result := .next (aluApply .sub (s.getOperand (.reg .e)) 1 s)

/-- `SUB A,H` (R171). -/
def execSubAH (s : State) : Result := .next (aluApply .sub (s.getOperand (.reg .h)) 1 s)

/-- `SUB A,L` (R171). -/
def execSubAL (s : State) : Result := .next (aluApply .sub (s.getOperand (.reg .l)) 1 s)

/-- `SUB A,(HL)` (R172). -/
def execSubAMHl (s : State) : Result := .next (aluApply .sub (s.getOperand .memHl) 1 s)

/-- `SUB A,A` (R171). -/
def execSubAA (s : State) : Result := .next (aluApply .sub (s.getOperand (.reg .a)) 1 s)

/-- `SUB A,d8` (R173). -/
def execSubAD8 (d8 : Byte) (s : State) : Result := .next (aluApply .sub d8 2 s)

/-- `SBC A,B` (R174). -/
def execSbcAB (s : State) : Result := .next (aluApply .sbc (s.getOperand (.reg .b)) 1 s)

/-- `SBC A,C` (R174). -/
def execSbcAC (s : State) : Result := .next (aluApply .sbc (s.getOperand (.reg .c)) 1 s)

/-- `SBC A,D` (R174). -/
def execSbcAD (s : State) : Result := .next (aluApply .sbc (s.getOperand (.reg .d)) 1 s)

/-- `SBC A,E` (R174). -/
def execSbcAE (s : State) : Result := .next (aluApply .sbc (s.getOperand (.reg .e)) 1 s)

/-- `SBC A,H` (R174). -/
def execSbcAH (s : State) : Result := .next (aluApply .sbc (s.getOperand (.reg .h)) 1 s)

/-- `SBC A,L` (R174). -/
def execSbcAL (s : State) : Result := .next (aluApply .sbc (s.getOperand (.reg .l)) 1 s)

/-- `SBC A,(HL)` (R175). -/
def execSbcAMHl (s : State) : Result := .next (aluApply .sbc (s.getOperand .memHl) 1 s)

/-- `SBC A,A` (R174). -/
def execSbcAA (s : State) : Result := .next (aluApply .sbc (s.getOperand (.reg .a)) 1 s)

/-- `SBC A,d8` (R176). -/
def execSbcAD8 (d8 : Byte) (s : State) : Result := .next (aluApply .sbc d8 2 s)

/-- `AND A,B` (R177). -/
def execAndAB (s : State) : Result := .next (aluApply .and (s.getOperand (.reg .b)) 1 s)

/-- `AND A,C` (R177). -/
def execAndAC (s : State) : Result := .next (aluApply .and (s.getOperand (.reg .c)) 1 s)

/-- `AND A,D` (R177). -/
def execAndAD (s : State) : Result := .next (aluApply .and (s.getOperand (.reg .d)) 1 s)

/-- `AND A,E` (R177). -/
def execAndAE (s : State) : Result := .next (aluApply .and (s.getOperand (.reg .e)) 1 s)

/-- `AND A,H` (R177). -/
def execAndAH (s : State) : Result := .next (aluApply .and (s.getOperand (.reg .h)) 1 s)

/-- `AND A,L` (R177). -/
def execAndAL (s : State) : Result := .next (aluApply .and (s.getOperand (.reg .l)) 1 s)

/-- `AND A,(HL)` (R178). -/
def execAndAMHl (s : State) : Result := .next (aluApply .and (s.getOperand .memHl) 1 s)

/-- `AND A,A` (R177). -/
def execAndAA (s : State) : Result := .next (aluApply .and (s.getOperand (.reg .a)) 1 s)

/-- `AND A,d8` (R179). -/
def execAndAD8 (d8 : Byte) (s : State) : Result := .next (aluApply .and d8 2 s)

/-- `OR A,B` (R180). -/
def execOrAB (s : State) : Result := .next (aluApply .or (s.getOperand (.reg .b)) 1 s)

/-- `OR A,C` (R180). -/
def execOrAC (s : State) : Result := .next (aluApply .or (s.getOperand (.reg .c)) 1 s)

/-- `OR A,D` (R180). -/
def execOrAD (s : State) : Result := .next (aluApply .or (s.getOperand (.reg .d)) 1 s)

/-- `OR A,E` (R180). -/
def execOrAE (s : State) : Result := .next (aluApply .or (s.getOperand (.reg .e)) 1 s)

/-- `OR A,H` (R180). -/
def execOrAH (s : State) : Result := .next (aluApply .or (s.getOperand (.reg .h)) 1 s)

/-- `OR A,L` (R180). -/
def execOrAL (s : State) : Result := .next (aluApply .or (s.getOperand (.reg .l)) 1 s)

/-- `OR A,(HL)` (R181). -/
def execOrAMHl (s : State) : Result := .next (aluApply .or (s.getOperand .memHl) 1 s)

/-- `OR A,A` (R180). -/
def execOrAA (s : State) : Result := .next (aluApply .or (s.getOperand (.reg .a)) 1 s)

/-- `OR A,d8` (R182). -/
def execOrAD8 (d8 : Byte) (s : State) : Result := .next (aluApply .or d8 2 s)

/-- `XOR A,B` (R183). -/
def execXorAB (s : State) : Result := .next (aluApply .xor (s.getOperand (.reg .b)) 1 s)

/-- `XOR A,C` (R183). -/
def execXorAC (s : State) : Result := .next (aluApply .xor (s.getOperand (.reg .c)) 1 s)

/-- `XOR A,D` (R183). -/
def execXorAD (s : State) : Result := .next (aluApply .xor (s.getOperand (.reg .d)) 1 s)

/-- `XOR A,E` (R183). -/
def execXorAE (s : State) : Result := .next (aluApply .xor (s.getOperand (.reg .e)) 1 s)

/-- `XOR A,H` (R183). -/
def execXorAH (s : State) : Result := .next (aluApply .xor (s.getOperand (.reg .h)) 1 s)

/-- `XOR A,L` (R183). -/
def execXorAL (s : State) : Result := .next (aluApply .xor (s.getOperand (.reg .l)) 1 s)

/-- `XOR A,(HL)` (R184). -/
def execXorAMHl (s : State) : Result := .next (aluApply .xor (s.getOperand .memHl) 1 s)

/-- `XOR A,A` (R183). -/
def execXorAA (s : State) : Result := .next (aluApply .xor (s.getOperand (.reg .a)) 1 s)

/-- `XOR A,d8` (R185). -/
def execXorAD8 (d8 : Byte) (s : State) : Result := .next (aluApply .xor d8 2 s)

/-- `CP A,B` (R186). -/
def execCpAB (s : State) : Result := .next (aluApply .cp (s.getOperand (.reg .b)) 1 s)

/-- `CP A,C` (R186). -/
def execCpAC (s : State) : Result := .next (aluApply .cp (s.getOperand (.reg .c)) 1 s)

/-- `CP A,D` (R186). -/
def execCpAD (s : State) : Result := .next (aluApply .cp (s.getOperand (.reg .d)) 1 s)

/-- `CP A,E` (R186). -/
def execCpAE (s : State) : Result := .next (aluApply .cp (s.getOperand (.reg .e)) 1 s)

/-- `CP A,H` (R186). -/
def execCpAH (s : State) : Result := .next (aluApply .cp (s.getOperand (.reg .h)) 1 s)

/-- `CP A,L` (R186). -/
def execCpAL (s : State) : Result := .next (aluApply .cp (s.getOperand (.reg .l)) 1 s)

/-- `CP A,(HL)` (R187). -/
def execCpAMHl (s : State) : Result := .next (aluApply .cp (s.getOperand .memHl) 1 s)

/-- `CP A,A` (R186). -/
def execCpAA (s : State) : Result := .next (aluApply .cp (s.getOperand (.reg .a)) 1 s)

/-- `CP A,d8` (R188). -/
def execCpAD8 (d8 : Byte) (s : State) : Result := .next (aluApply .cp d8 2 s)

/-- `INC B` (R189). -/
def execIncB (s : State) : Result := .next (incOperand (.reg .b) s)

/-- `INC C` (R189). -/
def execIncC (s : State) : Result := .next (incOperand (.reg .c) s)

/-- `INC D` (R189). -/
def execIncD (s : State) : Result := .next (incOperand (.reg .d) s)

/-- `INC E` (R189). -/
def execIncE (s : State) : Result := .next (incOperand (.reg .e) s)

/-- `INC H` (R189). -/
def execIncH (s : State) : Result := .next (incOperand (.reg .h) s)

/-- `INC L` (R189). -/
def execIncL (s : State) : Result := .next (incOperand (.reg .l) s)

/-- `INC (HL)` (R190). -/
def execIncMHl (s : State) : Result := .next (incOperand .memHl s)

/-- `INC A` (R189). -/
def execIncA (s : State) : Result := .next (incOperand (.reg .a) s)

/-- `DEC B` (R191). -/
def execDecB (s : State) : Result := .next (decOperand (.reg .b) s)

/-- `DEC C` (R191). -/
def execDecC (s : State) : Result := .next (decOperand (.reg .c) s)

/-- `DEC D` (R191). -/
def execDecD (s : State) : Result := .next (decOperand (.reg .d) s)

/-- `DEC E` (R191). -/
def execDecE (s : State) : Result := .next (decOperand (.reg .e) s)

/-- `DEC H` (R191). -/
def execDecH (s : State) : Result := .next (decOperand (.reg .h) s)

/-- `DEC L` (R191). -/
def execDecL (s : State) : Result := .next (decOperand (.reg .l) s)

/-- `DEC (HL)` (R192). -/
def execDecMHl (s : State) : Result := .next (decOperand .memHl s)

/-- `DEC A` (R191). -/
def execDecA (s : State) : Result := .next (decOperand (.reg .a) s)

end Sys2Proof.Machine
end

