-- ==== Sys2Proof/Machine/Bit.lean ====
section
/-! DEFINITION. Bit test, set and clear (spec/45_bit.md, R250 to R256). -/
namespace Sys2Proof.Machine

/-- `BIT b`: Z the complement of the bit, N 0, H 1, C unchanged; nothing stored (R251, R252). -/
def testBit (b : Fin 8) (o : Operand8) (s : State) : State :=
  (((s.setFlag .z (!(s.getOperand o).getLsbD b)).setFlag .n false).setFlag .h true).advance 2

/-- `SET b`: no flag (R253, R254). -/
def setBit (b : Fin 8) (o : Operand8) (s : State) : State :=
  (s.setOperand o (s.getOperand o ||| bitMask b)).advance 2

/-- `RES b`: no flag (R255, R256). -/
def resetBit (b : Fin 8) (o : Operand8) (s : State) : State :=
  (s.setOperand o (s.getOperand o &&& ~~~ (bitMask b))).advance 2

/-- `BIT 0,B` (R251). -/
def execBit0B (s : State) : Result := .next (testBit 0 (.reg .b) s)

/-- `BIT 0,C` (R251). -/
def execBit0C (s : State) : Result := .next (testBit 0 (.reg .c) s)

/-- `BIT 0,D` (R251). -/
def execBit0D (s : State) : Result := .next (testBit 0 (.reg .d) s)

/-- `BIT 0,E` (R251). -/
def execBit0E (s : State) : Result := .next (testBit 0 (.reg .e) s)

/-- `BIT 0,H` (R251). -/
def execBit0H (s : State) : Result := .next (testBit 0 (.reg .h) s)

/-- `BIT 0,L` (R251). -/
def execBit0L (s : State) : Result := .next (testBit 0 (.reg .l) s)

/-- `BIT 0,(HL)` (R252). -/
def execBit0MHl (s : State) : Result := .next (testBit 0 .memHl s)

/-- `BIT 0,A` (R251). -/
def execBit0A (s : State) : Result := .next (testBit 0 (.reg .a) s)

/-- `BIT 1,B` (R251). -/
def execBit1B (s : State) : Result := .next (testBit 1 (.reg .b) s)

/-- `BIT 1,C` (R251). -/
def execBit1C (s : State) : Result := .next (testBit 1 (.reg .c) s)

/-- `BIT 1,D` (R251). -/
def execBit1D (s : State) : Result := .next (testBit 1 (.reg .d) s)

/-- `BIT 1,E` (R251). -/
def execBit1E (s : State) : Result := .next (testBit 1 (.reg .e) s)

/-- `BIT 1,H` (R251). -/
def execBit1H (s : State) : Result := .next (testBit 1 (.reg .h) s)

/-- `BIT 1,L` (R251). -/
def execBit1L (s : State) : Result := .next (testBit 1 (.reg .l) s)

/-- `BIT 1,(HL)` (R252). -/
def execBit1MHl (s : State) : Result := .next (testBit 1 .memHl s)

/-- `BIT 1,A` (R251). -/
def execBit1A (s : State) : Result := .next (testBit 1 (.reg .a) s)

/-- `BIT 2,B` (R251). -/
def execBit2B (s : State) : Result := .next (testBit 2 (.reg .b) s)

/-- `BIT 2,C` (R251). -/
def execBit2C (s : State) : Result := .next (testBit 2 (.reg .c) s)

/-- `BIT 2,D` (R251). -/
def execBit2D (s : State) : Result := .next (testBit 2 (.reg .d) s)

/-- `BIT 2,E` (R251). -/
def execBit2E (s : State) : Result := .next (testBit 2 (.reg .e) s)

/-- `BIT 2,H` (R251). -/
def execBit2H (s : State) : Result := .next (testBit 2 (.reg .h) s)

/-- `BIT 2,L` (R251). -/
def execBit2L (s : State) : Result := .next (testBit 2 (.reg .l) s)

/-- `BIT 2,(HL)` (R252). -/
def execBit2MHl (s : State) : Result := .next (testBit 2 .memHl s)

/-- `BIT 2,A` (R251). -/
def execBit2A (s : State) : Result := .next (testBit 2 (.reg .a) s)

/-- `BIT 3,B` (R251). -/
def execBit3B (s : State) : Result := .next (testBit 3 (.reg .b) s)

/-- `BIT 3,C` (R251). -/
def execBit3C (s : State) : Result := .next (testBit 3 (.reg .c) s)

/-- `BIT 3,D` (R251). -/
def execBit3D (s : State) : Result := .next (testBit 3 (.reg .d) s)

/-- `BIT 3,E` (R251). -/
def execBit3E (s : State) : Result := .next (testBit 3 (.reg .e) s)

/-- `BIT 3,H` (R251). -/
def execBit3H (s : State) : Result := .next (testBit 3 (.reg .h) s)

/-- `BIT 3,L` (R251). -/
def execBit3L (s : State) : Result := .next (testBit 3 (.reg .l) s)

/-- `BIT 3,(HL)` (R252). -/
def execBit3MHl (s : State) : Result := .next (testBit 3 .memHl s)

/-- `BIT 3,A` (R251). -/
def execBit3A (s : State) : Result := .next (testBit 3 (.reg .a) s)

/-- `BIT 4,B` (R251). -/
def execBit4B (s : State) : Result := .next (testBit 4 (.reg .b) s)

/-- `BIT 4,C` (R251). -/
def execBit4C (s : State) : Result := .next (testBit 4 (.reg .c) s)

/-- `BIT 4,D` (R251). -/
def execBit4D (s : State) : Result := .next (testBit 4 (.reg .d) s)

/-- `BIT 4,E` (R251). -/
def execBit4E (s : State) : Result := .next (testBit 4 (.reg .e) s)

/-- `BIT 4,H` (R251). -/
def execBit4H (s : State) : Result := .next (testBit 4 (.reg .h) s)

/-- `BIT 4,L` (R251). -/
def execBit4L (s : State) : Result := .next (testBit 4 (.reg .l) s)

/-- `BIT 4,(HL)` (R252). -/
def execBit4MHl (s : State) : Result := .next (testBit 4 .memHl s)

/-- `BIT 4,A` (R251). -/
def execBit4A (s : State) : Result := .next (testBit 4 (.reg .a) s)

/-- `BIT 5,B` (R251). -/
def execBit5B (s : State) : Result := .next (testBit 5 (.reg .b) s)

/-- `BIT 5,C` (R251). -/
def execBit5C (s : State) : Result := .next (testBit 5 (.reg .c) s)

/-- `BIT 5,D` (R251). -/
def execBit5D (s : State) : Result := .next (testBit 5 (.reg .d) s)

/-- `BIT 5,E` (R251). -/
def execBit5E (s : State) : Result := .next (testBit 5 (.reg .e) s)

/-- `BIT 5,H` (R251). -/
def execBit5H (s : State) : Result := .next (testBit 5 (.reg .h) s)

/-- `BIT 5,L` (R251). -/
def execBit5L (s : State) : Result := .next (testBit 5 (.reg .l) s)

/-- `BIT 5,(HL)` (R252). -/
def execBit5MHl (s : State) : Result := .next (testBit 5 .memHl s)

/-- `BIT 5,A` (R251). -/
def execBit5A (s : State) : Result := .next (testBit 5 (.reg .a) s)

/-- `BIT 6,B` (R251). -/
def execBit6B (s : State) : Result := .next (testBit 6 (.reg .b) s)

/-- `BIT 6,C` (R251). -/
def execBit6C (s : State) : Result := .next (testBit 6 (.reg .c) s)

/-- `BIT 6,D` (R251). -/
def execBit6D (s : State) : Result := .next (testBit 6 (.reg .d) s)

/-- `BIT 6,E` (R251). -/
def execBit6E (s : State) : Result := .next (testBit 6 (.reg .e) s)

/-- `BIT 6,H` (R251). -/
def execBit6H (s : State) : Result := .next (testBit 6 (.reg .h) s)

/-- `BIT 6,L` (R251). -/
def execBit6L (s : State) : Result := .next (testBit 6 (.reg .l) s)

/-- `BIT 6,(HL)` (R252). -/
def execBit6MHl (s : State) : Result := .next (testBit 6 .memHl s)

/-- `BIT 6,A` (R251). -/
def execBit6A (s : State) : Result := .next (testBit 6 (.reg .a) s)

/-- `BIT 7,B` (R251). -/
def execBit7B (s : State) : Result := .next (testBit 7 (.reg .b) s)

/-- `BIT 7,C` (R251). -/
def execBit7C (s : State) : Result := .next (testBit 7 (.reg .c) s)

/-- `BIT 7,D` (R251). -/
def execBit7D (s : State) : Result := .next (testBit 7 (.reg .d) s)

/-- `BIT 7,E` (R251). -/
def execBit7E (s : State) : Result := .next (testBit 7 (.reg .e) s)

/-- `BIT 7,H` (R251). -/
def execBit7H (s : State) : Result := .next (testBit 7 (.reg .h) s)

/-- `BIT 7,L` (R251). -/
def execBit7L (s : State) : Result := .next (testBit 7 (.reg .l) s)

/-- `BIT 7,(HL)` (R252). -/
def execBit7MHl (s : State) : Result := .next (testBit 7 .memHl s)

/-- `BIT 7,A` (R251). -/
def execBit7A (s : State) : Result := .next (testBit 7 (.reg .a) s)

/-- `SET 0,B` (R253). -/
def execSet0B (s : State) : Result := .next (setBit 0 (.reg .b) s)

/-- `SET 0,C` (R253). -/
def execSet0C (s : State) : Result := .next (setBit 0 (.reg .c) s)

/-- `SET 0,D` (R253). -/
def execSet0D (s : State) : Result := .next (setBit 0 (.reg .d) s)

/-- `SET 0,E` (R253). -/
def execSet0E (s : State) : Result := .next (setBit 0 (.reg .e) s)

/-- `SET 0,H` (R253). -/
def execSet0H (s : State) : Result := .next (setBit 0 (.reg .h) s)

/-- `SET 0,L` (R253). -/
def execSet0L (s : State) : Result := .next (setBit 0 (.reg .l) s)

/-- `SET 0,(HL)` (R254). -/
def execSet0MHl (s : State) : Result := .next (setBit 0 .memHl s)

/-- `SET 0,A` (R253). -/
def execSet0A (s : State) : Result := .next (setBit 0 (.reg .a) s)

/-- `SET 1,B` (R253). -/
def execSet1B (s : State) : Result := .next (setBit 1 (.reg .b) s)

/-- `SET 1,C` (R253). -/
def execSet1C (s : State) : Result := .next (setBit 1 (.reg .c) s)

/-- `SET 1,D` (R253). -/
def execSet1D (s : State) : Result := .next (setBit 1 (.reg .d) s)

/-- `SET 1,E` (R253). -/
def execSet1E (s : State) : Result := .next (setBit 1 (.reg .e) s)

/-- `SET 1,H` (R253). -/
def execSet1H (s : State) : Result := .next (setBit 1 (.reg .h) s)

/-- `SET 1,L` (R253). -/
def execSet1L (s : State) : Result := .next (setBit 1 (.reg .l) s)

/-- `SET 1,(HL)` (R254). -/
def execSet1MHl (s : State) : Result := .next (setBit 1 .memHl s)

/-- `SET 1,A` (R253). -/
def execSet1A (s : State) : Result := .next (setBit 1 (.reg .a) s)

/-- `SET 2,B` (R253). -/
def execSet2B (s : State) : Result := .next (setBit 2 (.reg .b) s)

/-- `SET 2,C` (R253). -/
def execSet2C (s : State) : Result := .next (setBit 2 (.reg .c) s)

/-- `SET 2,D` (R253). -/
def execSet2D (s : State) : Result := .next (setBit 2 (.reg .d) s)

/-- `SET 2,E` (R253). -/
def execSet2E (s : State) : Result := .next (setBit 2 (.reg .e) s)

/-- `SET 2,H` (R253). -/
def execSet2H (s : State) : Result := .next (setBit 2 (.reg .h) s)

/-- `SET 2,L` (R253). -/
def execSet2L (s : State) : Result := .next (setBit 2 (.reg .l) s)

/-- `SET 2,(HL)` (R254). -/
def execSet2MHl (s : State) : Result := .next (setBit 2 .memHl s)

/-- `SET 2,A` (R253). -/
def execSet2A (s : State) : Result := .next (setBit 2 (.reg .a) s)

/-- `SET 3,B` (R253). -/
def execSet3B (s : State) : Result := .next (setBit 3 (.reg .b) s)

/-- `SET 3,C` (R253). -/
def execSet3C (s : State) : Result := .next (setBit 3 (.reg .c) s)

/-- `SET 3,D` (R253). -/
def execSet3D (s : State) : Result := .next (setBit 3 (.reg .d) s)

/-- `SET 3,E` (R253). -/
def execSet3E (s : State) : Result := .next (setBit 3 (.reg .e) s)

/-- `SET 3,H` (R253). -/
def execSet3H (s : State) : Result := .next (setBit 3 (.reg .h) s)

/-- `SET 3,L` (R253). -/
def execSet3L (s : State) : Result := .next (setBit 3 (.reg .l) s)

/-- `SET 3,(HL)` (R254). -/
def execSet3MHl (s : State) : Result := .next (setBit 3 .memHl s)

/-- `SET 3,A` (R253). -/
def execSet3A (s : State) : Result := .next (setBit 3 (.reg .a) s)

/-- `SET 4,B` (R253). -/
def execSet4B (s : State) : Result := .next (setBit 4 (.reg .b) s)

/-- `SET 4,C` (R253). -/
def execSet4C (s : State) : Result := .next (setBit 4 (.reg .c) s)

/-- `SET 4,D` (R253). -/
def execSet4D (s : State) : Result := .next (setBit 4 (.reg .d) s)

/-- `SET 4,E` (R253). -/
def execSet4E (s : State) : Result := .next (setBit 4 (.reg .e) s)

/-- `SET 4,H` (R253). -/
def execSet4H (s : State) : Result := .next (setBit 4 (.reg .h) s)

/-- `SET 4,L` (R253). -/
def execSet4L (s : State) : Result := .next (setBit 4 (.reg .l) s)

/-- `SET 4,(HL)` (R254). -/
def execSet4MHl (s : State) : Result := .next (setBit 4 .memHl s)

/-- `SET 4,A` (R253). -/
def execSet4A (s : State) : Result := .next (setBit 4 (.reg .a) s)

/-- `SET 5,B` (R253). -/
def execSet5B (s : State) : Result := .next (setBit 5 (.reg .b) s)

/-- `SET 5,C` (R253). -/
def execSet5C (s : State) : Result := .next (setBit 5 (.reg .c) s)

/-- `SET 5,D` (R253). -/
def execSet5D (s : State) : Result := .next (setBit 5 (.reg .d) s)

/-- `SET 5,E` (R253). -/
def execSet5E (s : State) : Result := .next (setBit 5 (.reg .e) s)

/-- `SET 5,H` (R253). -/
def execSet5H (s : State) : Result := .next (setBit 5 (.reg .h) s)

/-- `SET 5,L` (R253). -/
def execSet5L (s : State) : Result := .next (setBit 5 (.reg .l) s)

/-- `SET 5,(HL)` (R254). -/
def execSet5MHl (s : State) : Result := .next (setBit 5 .memHl s)

/-- `SET 5,A` (R253). -/
def execSet5A (s : State) : Result := .next (setBit 5 (.reg .a) s)

/-- `SET 6,B` (R253). -/
def execSet6B (s : State) : Result := .next (setBit 6 (.reg .b) s)

/-- `SET 6,C` (R253). -/
def execSet6C (s : State) : Result := .next (setBit 6 (.reg .c) s)

/-- `SET 6,D` (R253). -/
def execSet6D (s : State) : Result := .next (setBit 6 (.reg .d) s)

/-- `SET 6,E` (R253). -/
def execSet6E (s : State) : Result := .next (setBit 6 (.reg .e) s)

/-- `SET 6,H` (R253). -/
def execSet6H (s : State) : Result := .next (setBit 6 (.reg .h) s)

/-- `SET 6,L` (R253). -/
def execSet6L (s : State) : Result := .next (setBit 6 (.reg .l) s)

/-- `SET 6,(HL)` (R254). -/
def execSet6MHl (s : State) : Result := .next (setBit 6 .memHl s)

/-- `SET 6,A` (R253). -/
def execSet6A (s : State) : Result := .next (setBit 6 (.reg .a) s)

/-- `SET 7,B` (R253). -/
def execSet7B (s : State) : Result := .next (setBit 7 (.reg .b) s)

/-- `SET 7,C` (R253). -/
def execSet7C (s : State) : Result := .next (setBit 7 (.reg .c) s)

/-- `SET 7,D` (R253). -/
def execSet7D (s : State) : Result := .next (setBit 7 (.reg .d) s)

/-- `SET 7,E` (R253). -/
def execSet7E (s : State) : Result := .next (setBit 7 (.reg .e) s)

/-- `SET 7,H` (R253). -/
def execSet7H (s : State) : Result := .next (setBit 7 (.reg .h) s)

/-- `SET 7,L` (R253). -/
def execSet7L (s : State) : Result := .next (setBit 7 (.reg .l) s)

/-- `SET 7,(HL)` (R254). -/
def execSet7MHl (s : State) : Result := .next (setBit 7 .memHl s)

/-- `SET 7,A` (R253). -/
def execSet7A (s : State) : Result := .next (setBit 7 (.reg .a) s)

/-- `RES 0,B` (R255). -/
def execRes0B (s : State) : Result := .next (resetBit 0 (.reg .b) s)

/-- `RES 0,C` (R255). -/
def execRes0C (s : State) : Result := .next (resetBit 0 (.reg .c) s)

/-- `RES 0,D` (R255). -/
def execRes0D (s : State) : Result := .next (resetBit 0 (.reg .d) s)

/-- `RES 0,E` (R255). -/
def execRes0E (s : State) : Result := .next (resetBit 0 (.reg .e) s)

/-- `RES 0,H` (R255). -/
def execRes0H (s : State) : Result := .next (resetBit 0 (.reg .h) s)

/-- `RES 0,L` (R255). -/
def execRes0L (s : State) : Result := .next (resetBit 0 (.reg .l) s)

/-- `RES 0,(HL)` (R256). -/
def execRes0MHl (s : State) : Result := .next (resetBit 0 .memHl s)

/-- `RES 0,A` (R255). -/
def execRes0A (s : State) : Result := .next (resetBit 0 (.reg .a) s)

/-- `RES 1,B` (R255). -/
def execRes1B (s : State) : Result := .next (resetBit 1 (.reg .b) s)

/-- `RES 1,C` (R255). -/
def execRes1C (s : State) : Result := .next (resetBit 1 (.reg .c) s)

/-- `RES 1,D` (R255). -/
def execRes1D (s : State) : Result := .next (resetBit 1 (.reg .d) s)

/-- `RES 1,E` (R255). -/
def execRes1E (s : State) : Result := .next (resetBit 1 (.reg .e) s)

/-- `RES 1,H` (R255). -/
def execRes1H (s : State) : Result := .next (resetBit 1 (.reg .h) s)

/-- `RES 1,L` (R255). -/
def execRes1L (s : State) : Result := .next (resetBit 1 (.reg .l) s)

/-- `RES 1,(HL)` (R256). -/
def execRes1MHl (s : State) : Result := .next (resetBit 1 .memHl s)

/-- `RES 1,A` (R255). -/
def execRes1A (s : State) : Result := .next (resetBit 1 (.reg .a) s)

/-- `RES 2,B` (R255). -/
def execRes2B (s : State) : Result := .next (resetBit 2 (.reg .b) s)

/-- `RES 2,C` (R255). -/
def execRes2C (s : State) : Result := .next (resetBit 2 (.reg .c) s)

/-- `RES 2,D` (R255). -/
def execRes2D (s : State) : Result := .next (resetBit 2 (.reg .d) s)

/-- `RES 2,E` (R255). -/
def execRes2E (s : State) : Result := .next (resetBit 2 (.reg .e) s)

/-- `RES 2,H` (R255). -/
def execRes2H (s : State) : Result := .next (resetBit 2 (.reg .h) s)

/-- `RES 2,L` (R255). -/
def execRes2L (s : State) : Result := .next (resetBit 2 (.reg .l) s)

/-- `RES 2,(HL)` (R256). -/
def execRes2MHl (s : State) : Result := .next (resetBit 2 .memHl s)

/-- `RES 2,A` (R255). -/
def execRes2A (s : State) : Result := .next (resetBit 2 (.reg .a) s)

/-- `RES 3,B` (R255). -/
def execRes3B (s : State) : Result := .next (resetBit 3 (.reg .b) s)

/-- `RES 3,C` (R255). -/
def execRes3C (s : State) : Result := .next (resetBit 3 (.reg .c) s)

/-- `RES 3,D` (R255). -/
def execRes3D (s : State) : Result := .next (resetBit 3 (.reg .d) s)

/-- `RES 3,E` (R255). -/
def execRes3E (s : State) : Result := .next (resetBit 3 (.reg .e) s)

/-- `RES 3,H` (R255). -/
def execRes3H (s : State) : Result := .next (resetBit 3 (.reg .h) s)

/-- `RES 3,L` (R255). -/
def execRes3L (s : State) : Result := .next (resetBit 3 (.reg .l) s)

/-- `RES 3,(HL)` (R256). -/
def execRes3MHl (s : State) : Result := .next (resetBit 3 .memHl s)

/-- `RES 3,A` (R255). -/
def execRes3A (s : State) : Result := .next (resetBit 3 (.reg .a) s)

/-- `RES 4,B` (R255). -/
def execRes4B (s : State) : Result := .next (resetBit 4 (.reg .b) s)

/-- `RES 4,C` (R255). -/
def execRes4C (s : State) : Result := .next (resetBit 4 (.reg .c) s)

/-- `RES 4,D` (R255). -/
def execRes4D (s : State) : Result := .next (resetBit 4 (.reg .d) s)

/-- `RES 4,E` (R255). -/
def execRes4E (s : State) : Result := .next (resetBit 4 (.reg .e) s)

/-- `RES 4,H` (R255). -/
def execRes4H (s : State) : Result := .next (resetBit 4 (.reg .h) s)

/-- `RES 4,L` (R255). -/
def execRes4L (s : State) : Result := .next (resetBit 4 (.reg .l) s)

/-- `RES 4,(HL)` (R256). -/
def execRes4MHl (s : State) : Result := .next (resetBit 4 .memHl s)

/-- `RES 4,A` (R255). -/
def execRes4A (s : State) : Result := .next (resetBit 4 (.reg .a) s)

/-- `RES 5,B` (R255). -/
def execRes5B (s : State) : Result := .next (resetBit 5 (.reg .b) s)

/-- `RES 5,C` (R255). -/
def execRes5C (s : State) : Result := .next (resetBit 5 (.reg .c) s)

/-- `RES 5,D` (R255). -/
def execRes5D (s : State) : Result := .next (resetBit 5 (.reg .d) s)

/-- `RES 5,E` (R255). -/
def execRes5E (s : State) : Result := .next (resetBit 5 (.reg .e) s)

/-- `RES 5,H` (R255). -/
def execRes5H (s : State) : Result := .next (resetBit 5 (.reg .h) s)

/-- `RES 5,L` (R255). -/
def execRes5L (s : State) : Result := .next (resetBit 5 (.reg .l) s)

/-- `RES 5,(HL)` (R256). -/
def execRes5MHl (s : State) : Result := .next (resetBit 5 .memHl s)

/-- `RES 5,A` (R255). -/
def execRes5A (s : State) : Result := .next (resetBit 5 (.reg .a) s)

/-- `RES 6,B` (R255). -/
def execRes6B (s : State) : Result := .next (resetBit 6 (.reg .b) s)

/-- `RES 6,C` (R255). -/
def execRes6C (s : State) : Result := .next (resetBit 6 (.reg .c) s)

/-- `RES 6,D` (R255). -/
def execRes6D (s : State) : Result := .next (resetBit 6 (.reg .d) s)

/-- `RES 6,E` (R255). -/
def execRes6E (s : State) : Result := .next (resetBit 6 (.reg .e) s)

/-- `RES 6,H` (R255). -/
def execRes6H (s : State) : Result := .next (resetBit 6 (.reg .h) s)

/-- `RES 6,L` (R255). -/
def execRes6L (s : State) : Result := .next (resetBit 6 (.reg .l) s)

/-- `RES 6,(HL)` (R256). -/
def execRes6MHl (s : State) : Result := .next (resetBit 6 .memHl s)

/-- `RES 6,A` (R255). -/
def execRes6A (s : State) : Result := .next (resetBit 6 (.reg .a) s)

/-- `RES 7,B` (R255). -/
def execRes7B (s : State) : Result := .next (resetBit 7 (.reg .b) s)

/-- `RES 7,C` (R255). -/
def execRes7C (s : State) : Result := .next (resetBit 7 (.reg .c) s)

/-- `RES 7,D` (R255). -/
def execRes7D (s : State) : Result := .next (resetBit 7 (.reg .d) s)

/-- `RES 7,E` (R255). -/
def execRes7E (s : State) : Result := .next (resetBit 7 (.reg .e) s)

/-- `RES 7,H` (R255). -/
def execRes7H (s : State) : Result := .next (resetBit 7 (.reg .h) s)

/-- `RES 7,L` (R255). -/
def execRes7L (s : State) : Result := .next (resetBit 7 (.reg .l) s)

/-- `RES 7,(HL)` (R256). -/
def execRes7MHl (s : State) : Result := .next (resetBit 7 .memHl s)

/-- `RES 7,A` (R255). -/
def execRes7A (s : State) : Result := .next (resetBit 7 (.reg .a) s)

end Sys2Proof.Machine
end

