-- ==== Sys2Proof/Machine/Control.lean ====
section
/-! DEFINITION. Control transfer (spec/46_control.md, R265 to R276). No instruction of the family
writes a flag (R265). -/
namespace Sys2Proof.Machine

/-- A conditional instruction: its effect when the condition holds, else "nothing but `pc <- next`"
(R265). -/
def ifCond (cc : Cond) (len : Nat) (effect : State → State) (s : State) : State :=
  if s.cond cc then effect s else s.advance len

/-- `pc <- (pc + 2 + signed(e8)) mod 65536` (R269). -/
def jumpRelative (e8 : Byte) (s : State) : State := s.jump (s.nextPc 2 + sext16 e8)

/-- `Push16(next)`, then `pc <- target`; may raise StackFault before any change (R271, R273). -/
def call (target : Word) (len : Nat) (s : State) : State :=
  s.push16Then (s.nextPc len) (fun t => t.jump target)

/-- `JP a16` (R266). -/
def execJpA16 (a16 : Word) (s : State) : Result := .next (s.jump a16)

/-- `JP NZ,a16` (R267). -/
def execJpNzA16 (a16 : Word) (s : State) : Result := .next (ifCond .nz 3 (fun t => t.jump a16) s)

/-- `JP Z,a16` (R267). -/
def execJpZA16 (a16 : Word) (s : State) : Result := .next (ifCond .z 3 (fun t => t.jump a16) s)

/-- `JP NC,a16` (R267). -/
def execJpNcA16 (a16 : Word) (s : State) : Result := .next (ifCond .nc 3 (fun t => t.jump a16) s)

/-- `JP C,a16` (R267). -/
def execJpCA16 (a16 : Word) (s : State) : Result := .next (ifCond .c 3 (fun t => t.jump a16) s)

/-- `JP (HL)` (R268). -/
def execJpHl (s : State) : Result := .next (s.jump s.hl)

/-- `JR e8` (R269). -/
def execJrE8 (e8 : Byte) (s : State) : Result := .next (jumpRelative e8 s)

/-- `JR NZ,e8` (R270). -/
def execJrNzE8 (e8 : Byte) (s : State) : Result := .next (ifCond .nz 2 (jumpRelative e8) s)

/-- `JR Z,e8` (R270). -/
def execJrZE8 (e8 : Byte) (s : State) : Result := .next (ifCond .z 2 (jumpRelative e8) s)

/-- `JR NC,e8` (R270). -/
def execJrNcE8 (e8 : Byte) (s : State) : Result := .next (ifCond .nc 2 (jumpRelative e8) s)

/-- `JR C,e8` (R270). -/
def execJrCE8 (e8 : Byte) (s : State) : Result := .next (ifCond .c 2 (jumpRelative e8) s)

/-- `CALL a16` (R271). -/
def execCallA16 (a16 : Word) (s : State) : Result := .next (call a16 3 s)

/-- `CALL NZ,a16` (R272). -/
def execCallNzA16 (a16 : Word) (s : State) : Result := .next (ifCond .nz 3 (call a16 3) s)

/-- `CALL Z,a16` (R272). -/
def execCallZA16 (a16 : Word) (s : State) : Result := .next (ifCond .z 3 (call a16 3) s)

/-- `CALL NC,a16` (R272). -/
def execCallNcA16 (a16 : Word) (s : State) : Result := .next (ifCond .nc 3 (call a16 3) s)

/-- `CALL C,a16` (R272). -/
def execCallCA16 (a16 : Word) (s : State) : Result := .next (ifCond .c 3 (call a16 3) s)

/-- `RST 0x00` (R273). -/
def execRst00 (s : State) : Result := .next (call (rstTarget 0) 1 s)

/-- `RST 0x08` (R273). -/
def execRst08 (s : State) : Result := .next (call (rstTarget 1) 1 s)

/-- `RST 0x10` (R273). -/
def execRst10 (s : State) : Result := .next (call (rstTarget 2) 1 s)

/-- `RST 0x18` (R273). -/
def execRst18 (s : State) : Result := .next (call (rstTarget 3) 1 s)

/-- `RST 0x20` (R273). -/
def execRst20 (s : State) : Result := .next (call (rstTarget 4) 1 s)

/-- `RST 0x28` (R273). -/
def execRst28 (s : State) : Result := .next (call (rstTarget 5) 1 s)

/-- `RST 0x30` (R273). -/
def execRst30 (s : State) : Result := .next (call (rstTarget 6) 1 s)

/-- `RST 0x38` (R273). -/
def execRst38 (s : State) : Result := .next (call (rstTarget 7) 1 s)

/-- `RET` (R274). -/
def execRet (s : State) : Result := .next (s.returnToCaller)

/-- `RET NZ` (R275). -/
def execRetNz (s : State) : Result := .next (ifCond .nz 1 State.returnToCaller s)

/-- `RET Z` (R275). -/
def execRetZ (s : State) : Result := .next (ifCond .z 1 State.returnToCaller s)

/-- `RET NC` (R275). -/
def execRetNc (s : State) : Result := .next (ifCond .nc 1 State.returnToCaller s)

/-- `RET C` (R275). -/
def execRetC (s : State) : Result := .next (ifCond .c 1 State.returnToCaller s)

/-- `RETI` (R276). -/
def execReti (s : State) : Result := .next (s.returnFromInterrupt)

end Sys2Proof.Machine
end

