-- ==== Sys2Proof/Machine/Load8.lean ====
section
/-! DEFINITION. The 8-bit loads and stores (spec/40_load8.md, R110 to R129). No load writes a flag,
touches SP, IME or HALTED, or can fault (R110). -/
namespace Sys2Proof.Machine

/-- A load into a register: `r8[y] <- v`, `pc <- next` (R111 to R113, R116, R120). -/
def loadReg (r : Reg8) (v : Byte) (len : Nat) (s : State) : State := (s.setR8 r v).advance len

/-- A store of a byte: `MemWrite(a, 1, v)`, `pc <- next` (R114, R115, R118, R121). -/
def storeByte (a : Word) (v : Byte) (len : Nat) (s : State) : State := (s.writeByte a v).advance len

/-- `LD (HL+),A` and `LD (HL-),A`: store at the old HL, then HL adjusted (R126, R128). -/
def storeThenHl (newHl : Word) (s : State) : State :=
  ((s.writeByte s.hl s.a).setHl newHl).advance 1

/-- `LD A,(HL+)` and `LD A,(HL-)`: load from the old HL, then HL adjusted (R127, R129). -/
def loadThenHl (newHl : Word) (s : State) : State :=
  ((s.setR8 .a (s.readByte s.hl)).setHl newHl).advance 1

/-- `LD B,B` (R111). -/
def execLdBB (s : State) : Result := .next (loadReg .b (s.getR8 .b) 1 s)

/-- `LD B,C` (R111). -/
def execLdBC (s : State) : Result := .next (loadReg .b (s.getR8 .c) 1 s)

/-- `LD B,D` (R111). -/
def execLdBD (s : State) : Result := .next (loadReg .b (s.getR8 .d) 1 s)

/-- `LD B,E` (R111). -/
def execLdBE (s : State) : Result := .next (loadReg .b (s.getR8 .e) 1 s)

/-- `LD B,H` (R111). -/
def execLdBH (s : State) : Result := .next (loadReg .b (s.getR8 .h) 1 s)

/-- `LD B,L` (R111). -/
def execLdBL (s : State) : Result := .next (loadReg .b (s.getR8 .l) 1 s)

/-- `LD B,A` (R111). -/
def execLdBA (s : State) : Result := .next (loadReg .b (s.getR8 .a) 1 s)

/-- `LD C,B` (R111). -/
def execLdCB (s : State) : Result := .next (loadReg .c (s.getR8 .b) 1 s)

/-- `LD C,C` (R111). -/
def execLdCC (s : State) : Result := .next (loadReg .c (s.getR8 .c) 1 s)

/-- `LD C,D` (R111). -/
def execLdCD (s : State) : Result := .next (loadReg .c (s.getR8 .d) 1 s)

/-- `LD C,E` (R111). -/
def execLdCE (s : State) : Result := .next (loadReg .c (s.getR8 .e) 1 s)

/-- `LD C,H` (R111). -/
def execLdCH (s : State) : Result := .next (loadReg .c (s.getR8 .h) 1 s)

/-- `LD C,L` (R111). -/
def execLdCL (s : State) : Result := .next (loadReg .c (s.getR8 .l) 1 s)

/-- `LD C,A` (R111). -/
def execLdCA (s : State) : Result := .next (loadReg .c (s.getR8 .a) 1 s)

/-- `LD D,B` (R111). -/
def execLdDB (s : State) : Result := .next (loadReg .d (s.getR8 .b) 1 s)

/-- `LD D,C` (R111). -/
def execLdDC (s : State) : Result := .next (loadReg .d (s.getR8 .c) 1 s)

/-- `LD D,D` (R111). -/
def execLdDD (s : State) : Result := .next (loadReg .d (s.getR8 .d) 1 s)

/-- `LD D,E` (R111). -/
def execLdDE (s : State) : Result := .next (loadReg .d (s.getR8 .e) 1 s)

/-- `LD D,H` (R111). -/
def execLdDH (s : State) : Result := .next (loadReg .d (s.getR8 .h) 1 s)

/-- `LD D,L` (R111). -/
def execLdDL (s : State) : Result := .next (loadReg .d (s.getR8 .l) 1 s)

/-- `LD D,A` (R111). -/
def execLdDA (s : State) : Result := .next (loadReg .d (s.getR8 .a) 1 s)

/-- `LD E,B` (R111). -/
def execLdEB (s : State) : Result := .next (loadReg .e (s.getR8 .b) 1 s)

/-- `LD E,C` (R111). -/
def execLdEC (s : State) : Result := .next (loadReg .e (s.getR8 .c) 1 s)

/-- `LD E,D` (R111). -/
def execLdED (s : State) : Result := .next (loadReg .e (s.getR8 .d) 1 s)

/-- `LD E,E` (R111). -/
def execLdEE (s : State) : Result := .next (loadReg .e (s.getR8 .e) 1 s)

/-- `LD E,H` (R111). -/
def execLdEH (s : State) : Result := .next (loadReg .e (s.getR8 .h) 1 s)

/-- `LD E,L` (R111). -/
def execLdEL (s : State) : Result := .next (loadReg .e (s.getR8 .l) 1 s)

/-- `LD E,A` (R111). -/
def execLdEA (s : State) : Result := .next (loadReg .e (s.getR8 .a) 1 s)

/-- `LD H,B` (R111). -/
def execLdHB (s : State) : Result := .next (loadReg .h (s.getR8 .b) 1 s)

/-- `LD H,C` (R111). -/
def execLdHC (s : State) : Result := .next (loadReg .h (s.getR8 .c) 1 s)

/-- `LD H,D` (R111). -/
def execLdHD (s : State) : Result := .next (loadReg .h (s.getR8 .d) 1 s)

/-- `LD H,E` (R111). -/
def execLdHE (s : State) : Result := .next (loadReg .h (s.getR8 .e) 1 s)

/-- `LD H,H` (R111). -/
def execLdHH (s : State) : Result := .next (loadReg .h (s.getR8 .h) 1 s)

/-- `LD H,L` (R111). -/
def execLdHL (s : State) : Result := .next (loadReg .h (s.getR8 .l) 1 s)

/-- `LD H,A` (R111). -/
def execLdHA (s : State) : Result := .next (loadReg .h (s.getR8 .a) 1 s)

/-- `LD L,B` (R111). -/
def execLdLB (s : State) : Result := .next (loadReg .l (s.getR8 .b) 1 s)

/-- `LD L,C` (R111). -/
def execLdLC (s : State) : Result := .next (loadReg .l (s.getR8 .c) 1 s)

/-- `LD L,D` (R111). -/
def execLdLD (s : State) : Result := .next (loadReg .l (s.getR8 .d) 1 s)

/-- `LD L,E` (R111). -/
def execLdLE (s : State) : Result := .next (loadReg .l (s.getR8 .e) 1 s)

/-- `LD L,H` (R111). -/
def execLdLH (s : State) : Result := .next (loadReg .l (s.getR8 .h) 1 s)

/-- `LD L,L` (R111). -/
def execLdLL (s : State) : Result := .next (loadReg .l (s.getR8 .l) 1 s)

/-- `LD L,A` (R111). -/
def execLdLA (s : State) : Result := .next (loadReg .l (s.getR8 .a) 1 s)

/-- `LD A,B` (R111). -/
def execLdAB (s : State) : Result := .next (loadReg .a (s.getR8 .b) 1 s)

/-- `LD A,C` (R111). -/
def execLdAC (s : State) : Result := .next (loadReg .a (s.getR8 .c) 1 s)

/-- `LD A,D` (R111). -/
def execLdAD (s : State) : Result := .next (loadReg .a (s.getR8 .d) 1 s)

/-- `LD A,E` (R111). -/
def execLdAE (s : State) : Result := .next (loadReg .a (s.getR8 .e) 1 s)

/-- `LD A,H` (R111). -/
def execLdAH (s : State) : Result := .next (loadReg .a (s.getR8 .h) 1 s)

/-- `LD A,L` (R111). -/
def execLdAL (s : State) : Result := .next (loadReg .a (s.getR8 .l) 1 s)

/-- `LD A,A` (R111). -/
def execLdAA (s : State) : Result := .next (loadReg .a (s.getR8 .a) 1 s)

/-- `LD B,d8` (R112). -/
def execLdBD8 (d8 : Byte) (s : State) : Result := .next (loadReg .b d8 2 s)

/-- `LD C,d8` (R112). -/
def execLdCD8 (d8 : Byte) (s : State) : Result := .next (loadReg .c d8 2 s)

/-- `LD D,d8` (R112). -/
def execLdDD8 (d8 : Byte) (s : State) : Result := .next (loadReg .d d8 2 s)

/-- `LD E,d8` (R112). -/
def execLdED8 (d8 : Byte) (s : State) : Result := .next (loadReg .e d8 2 s)

/-- `LD H,d8` (R112). -/
def execLdHD8 (d8 : Byte) (s : State) : Result := .next (loadReg .h d8 2 s)

/-- `LD L,d8` (R112). -/
def execLdLD8 (d8 : Byte) (s : State) : Result := .next (loadReg .l d8 2 s)

/-- `LD A,d8` (R112). -/
def execLdAD8 (d8 : Byte) (s : State) : Result := .next (loadReg .a d8 2 s)

/-- `LD B,(HL)` (R113). -/
def execLdBMHl (s : State) : Result := .next (loadReg .b (s.readByte s.hl) 1 s)

/-- `LD C,(HL)` (R113). -/
def execLdCMHl (s : State) : Result := .next (loadReg .c (s.readByte s.hl) 1 s)

/-- `LD D,(HL)` (R113). -/
def execLdDMHl (s : State) : Result := .next (loadReg .d (s.readByte s.hl) 1 s)

/-- `LD E,(HL)` (R113). -/
def execLdEMHl (s : State) : Result := .next (loadReg .e (s.readByte s.hl) 1 s)

/-- `LD H,(HL)` (R113). -/
def execLdHMHl (s : State) : Result := .next (loadReg .h (s.readByte s.hl) 1 s)

/-- `LD L,(HL)` (R113). -/
def execLdLMHl (s : State) : Result := .next (loadReg .l (s.readByte s.hl) 1 s)

/-- `LD A,(HL)` (R113). -/
def execLdAMHl (s : State) : Result := .next (loadReg .a (s.readByte s.hl) 1 s)

/-- `LD (HL),B` (R114). -/
def execLdMHlB (s : State) : Result := .next (storeByte s.hl (s.getR8 .b) 1 s)

/-- `LD (HL),C` (R114). -/
def execLdMHlC (s : State) : Result := .next (storeByte s.hl (s.getR8 .c) 1 s)

/-- `LD (HL),D` (R114). -/
def execLdMHlD (s : State) : Result := .next (storeByte s.hl (s.getR8 .d) 1 s)

/-- `LD (HL),E` (R114). -/
def execLdMHlE (s : State) : Result := .next (storeByte s.hl (s.getR8 .e) 1 s)

/-- `LD (HL),H` (R114). -/
def execLdMHlH (s : State) : Result := .next (storeByte s.hl (s.getR8 .h) 1 s)

/-- `LD (HL),L` (R114). -/
def execLdMHlL (s : State) : Result := .next (storeByte s.hl (s.getR8 .l) 1 s)

/-- `LD (HL),A` (R114). -/
def execLdMHlA (s : State) : Result := .next (storeByte s.hl (s.getR8 .a) 1 s)

/-- `LD (HL),d8` (R115). -/
def execLdMHlD8 (d8 : Byte) (s : State) : Result := .next (storeByte s.hl d8 2 s)

/-- `LD A,(BC)` (R116). -/
def execLdAMBc (s : State) : Result := .next (loadReg .a (s.readByte s.bc) 1 s)

/-- `LD A,(DE)` (R117). -/
def execLdAMDe (s : State) : Result := .next (loadReg .a (s.readByte s.de) 1 s)

/-- `LD (BC),A` (R118). -/
def execLdMBcA (s : State) : Result := .next (storeByte s.bc s.a 1 s)

/-- `LD (DE),A` (R119). -/
def execLdMDeA (s : State) : Result := .next (storeByte s.de s.a 1 s)

/-- `LD A,(a16)` (R120). -/
def execLdAMA16 (a16 : Word) (s : State) : Result := .next (loadReg .a (s.readByte a16) 3 s)

/-- `LD (a16),A` (R121). -/
def execLdMA16A (a16 : Word) (s : State) : Result := .next (storeByte a16 s.a 3 s)

/-- `LDH A,(C)` (R122). -/
def execLdhAMC (s : State) : Result := .next (loadReg .a (s.readByte (zeroPage s.c)) 1 s)

/-- `LDH (C),A` (R123). -/
def execLdhMCA (s : State) : Result := .next (storeByte (zeroPage s.c) s.a 1 s)

/-- `LDH A,(a8)` (R124). -/
def execLdhAMA8 (a8 : Byte) (s : State) : Result := .next (loadReg .a (s.readByte (zeroPage a8)) 2 s)

/-- `LDH (a8),A` (R125). -/
def execLdhMA8A (a8 : Byte) (s : State) : Result := .next (storeByte (zeroPage a8) s.a 2 s)

/-- `LD (HL+),A` (R126). -/
def execLdMHlIncA (s : State) : Result := .next (storeThenHl (s.hl + 1) s)

/-- `LD A,(HL+)` (R127). -/
def execLdAMHlInc (s : State) : Result := .next (loadThenHl (s.hl + 1) s)

/-- `LD (HL-),A` (R128). -/
def execLdMHlDecA (s : State) : Result := .next (storeThenHl (s.hl - 1) s)

/-- `LD A,(HL-)` (R129). -/
def execLdAMHlDec (s : State) : Result := .next (loadThenHl (s.hl - 1) s)

end Sys2Proof.Machine
end

