-- ==== Sys2Proof/Machine/Misc.lean ====
section
/-! DEFINITION. NOP, DAA, CPL, CCF, SCF, HALT, STOP, DI, EI (spec/47_misc.md, R290 to R299). -/
namespace Sys2Proof.Machine

/-- `DAA`: A corrected, Z from the result, H 0, C, N unchanged (R292). -/
def decimalAdjust (s : State) : State :=
  let r := daaCompute s.a (s.flag .n) (s.flag .h) (s.flag .c)
  ((((s.setR8 .a r.1).setFlag .z (r.1 == 0)).setFlag .h false).setFlag .c r.2).advance 1

/-- `CPL`: A complemented, N and H 1, Z and C unchanged (R293). -/
def complementA (s : State) : State :=
  (((s.setR8 .a (s.a ^^^ 0xFF)).setFlag .n true).setFlag .h true).advance 1

/-- `CCF`: C complemented, N and H 0, Z unchanged (R294). -/
def complementCarry (s : State) : State :=
  (((s.setFlag .c (!s.flag .c)).setFlag .n false).setFlag .h false).advance 1

/-- `SCF`: C 1, N and H 0, Z unchanged (R295). -/
def setCarry (s : State) : State :=
  (((s.setFlag .c true).setFlag .n false).setFlag .h false).advance 1

/-- `HALTED <- 1`, `pc` past an instruction of `len` bytes (R296, R297). -/
def halt (len : Nat) (s : State) : State := ({ s with halted := true }).advance len

/-- What STOP does where it occupies `P_STOP_LEN` bytes (R297). -/
def enterStop (cfg : Config) (s : State) : State := halt cfg.stopLen s

/-- `IME <- v`, at once (R298, R299). -/
def setIme (v : Bool) (s : State) : State := ({ s with ime := v }).advance 1

/-- `NOP` (R291). -/
def execNop (s : State) : Result := .next (s.advance 1)

/-- `DAA` (R292). -/
def execDaa (s : State) : Result := .next (decimalAdjust s)

/-- `CPL` (R293). -/
def execCpl (s : State) : Result := .next (complementA s)

/-- `CCF` (R294). -/
def execCcf (s : State) : Result := .next (complementCarry s)

/-- `SCF` (R295). -/
def execScf (s : State) : Result := .next (setCarry s)

/-- `HALT` (R296). -/
def execHalt (s : State) : Result := .next (halt 1 s)

/-- `STOP`, at the spec's `P_STOP_LEN` = 2 (R297); at any other, `execWith`. -/
def execStop (s : State) : Result := .next (enterStop Config.default s)

/-- `DI` (R298). -/
def execDi (s : State) : Result := .next (setIme false s)

/-- `EI` (R299). -/
def execEi (s : State) : Result := .next (setIme true s)

end Sys2Proof.Machine
end

