-- ==== Sys2Proof/Machine/RotateShift.lean ====
section
/-! DEFINITION. The rotates, the shifts and SWAP (spec/44_rotate_shift.md, R215 to R235). -/
namespace Sys2Proof.Machine

/-- One operation of the family on an operand position: the result written back, Z from the result,
N and H 0, C the bit shifted out (R215). The accumulator short forms are it on A with length 1. -/
def shiftOperand (op : ShiftOp) (o : Operand8) (len : Nat) (s : State) : State :=
  let r := shiftCompute op (s.getOperand o) (s.flag .c)
  ((s.setOperand o r.1).setFlags (r.1 == 0) false false r.2).advance len

/-- `RLCA` (R216). -/
def execRlca (s : State) : Result := .next (shiftOperand .rlc (.reg .a) 1 s)

/-- `RLA` (R217). -/
def execRla (s : State) : Result := .next (shiftOperand .rl (.reg .a) 1 s)

/-- `RRCA` (R218). -/
def execRrca (s : State) : Result := .next (shiftOperand .rrc (.reg .a) 1 s)

/-- `RRA` (R219). -/
def execRra (s : State) : Result := .next (shiftOperand .rr (.reg .a) 1 s)

/-- `RLC B` (R220). -/
def execRlcB (s : State) : Result := .next (shiftOperand .rlc (.reg .b) 2 s)

/-- `RLC C` (R220). -/
def execRlcC (s : State) : Result := .next (shiftOperand .rlc (.reg .c) 2 s)

/-- `RLC D` (R220). -/
def execRlcD (s : State) : Result := .next (shiftOperand .rlc (.reg .d) 2 s)

/-- `RLC E` (R220). -/
def execRlcE (s : State) : Result := .next (shiftOperand .rlc (.reg .e) 2 s)

/-- `RLC H` (R220). -/
def execRlcH (s : State) : Result := .next (shiftOperand .rlc (.reg .h) 2 s)

/-- `RLC L` (R220). -/
def execRlcL (s : State) : Result := .next (shiftOperand .rlc (.reg .l) 2 s)

/-- `RLC (HL)` (R221). -/
def execRlcMHl (s : State) : Result := .next (shiftOperand .rlc .memHl 2 s)

/-- `RLC A` (R220). -/
def execRlcA (s : State) : Result := .next (shiftOperand .rlc (.reg .a) 2 s)

/-- `RL B` (R222). -/
def execRlB (s : State) : Result := .next (shiftOperand .rl (.reg .b) 2 s)

/-- `RL C` (R222). -/
def execRlC (s : State) : Result := .next (shiftOperand .rl (.reg .c) 2 s)

/-- `RL D` (R222). -/
def execRlD (s : State) : Result := .next (shiftOperand .rl (.reg .d) 2 s)

/-- `RL E` (R222). -/
def execRlE (s : State) : Result := .next (shiftOperand .rl (.reg .e) 2 s)

/-- `RL H` (R222). -/
def execRlH (s : State) : Result := .next (shiftOperand .rl (.reg .h) 2 s)

/-- `RL L` (R222). -/
def execRlL (s : State) : Result := .next (shiftOperand .rl (.reg .l) 2 s)

/-- `RL (HL)` (R223). -/
def execRlMHl (s : State) : Result := .next (shiftOperand .rl .memHl 2 s)

/-- `RL A` (R222). -/
def execRlA (s : State) : Result := .next (shiftOperand .rl (.reg .a) 2 s)

/-- `RRC B` (R224). -/
def execRrcB (s : State) : Result := .next (shiftOperand .rrc (.reg .b) 2 s)

/-- `RRC C` (R224). -/
def execRrcC (s : State) : Result := .next (shiftOperand .rrc (.reg .c) 2 s)

/-- `RRC D` (R224). -/
def execRrcD (s : State) : Result := .next (shiftOperand .rrc (.reg .d) 2 s)

/-- `RRC E` (R224). -/
def execRrcE (s : State) : Result := .next (shiftOperand .rrc (.reg .e) 2 s)

/-- `RRC H` (R224). -/
def execRrcH (s : State) : Result := .next (shiftOperand .rrc (.reg .h) 2 s)

/-- `RRC L` (R224). -/
def execRrcL (s : State) : Result := .next (shiftOperand .rrc (.reg .l) 2 s)

/-- `RRC (HL)` (R225). -/
def execRrcMHl (s : State) : Result := .next (shiftOperand .rrc .memHl 2 s)

/-- `RRC A` (R224). -/
def execRrcA (s : State) : Result := .next (shiftOperand .rrc (.reg .a) 2 s)

/-- `RR B` (R226). -/
def execRrB (s : State) : Result := .next (shiftOperand .rr (.reg .b) 2 s)

/-- `RR C` (R226). -/
def execRrC (s : State) : Result := .next (shiftOperand .rr (.reg .c) 2 s)

/-- `RR D` (R226). -/
def execRrD (s : State) : Result := .next (shiftOperand .rr (.reg .d) 2 s)

/-- `RR E` (R226). -/
def execRrE (s : State) : Result := .next (shiftOperand .rr (.reg .e) 2 s)

/-- `RR H` (R226). -/
def execRrH (s : State) : Result := .next (shiftOperand .rr (.reg .h) 2 s)

/-- `RR L` (R226). -/
def execRrL (s : State) : Result := .next (shiftOperand .rr (.reg .l) 2 s)

/-- `RR (HL)` (R227). -/
def execRrMHl (s : State) : Result := .next (shiftOperand .rr .memHl 2 s)

/-- `RR A` (R226). -/
def execRrA (s : State) : Result := .next (shiftOperand .rr (.reg .a) 2 s)

/-- `SLA B` (R228). -/
def execSlaB (s : State) : Result := .next (shiftOperand .sla (.reg .b) 2 s)

/-- `SLA C` (R228). -/
def execSlaC (s : State) : Result := .next (shiftOperand .sla (.reg .c) 2 s)

/-- `SLA D` (R228). -/
def execSlaD (s : State) : Result := .next (shiftOperand .sla (.reg .d) 2 s)

/-- `SLA E` (R228). -/
def execSlaE (s : State) : Result := .next (shiftOperand .sla (.reg .e) 2 s)

/-- `SLA H` (R228). -/
def execSlaH (s : State) : Result := .next (shiftOperand .sla (.reg .h) 2 s)

/-- `SLA L` (R228). -/
def execSlaL (s : State) : Result := .next (shiftOperand .sla (.reg .l) 2 s)

/-- `SLA (HL)` (R229). -/
def execSlaMHl (s : State) : Result := .next (shiftOperand .sla .memHl 2 s)

/-- `SLA A` (R228). -/
def execSlaA (s : State) : Result := .next (shiftOperand .sla (.reg .a) 2 s)

/-- `SRA B` (R230). -/
def execSraB (s : State) : Result := .next (shiftOperand .sra (.reg .b) 2 s)

/-- `SRA C` (R230). -/
def execSraC (s : State) : Result := .next (shiftOperand .sra (.reg .c) 2 s)

/-- `SRA D` (R230). -/
def execSraD (s : State) : Result := .next (shiftOperand .sra (.reg .d) 2 s)

/-- `SRA E` (R230). -/
def execSraE (s : State) : Result := .next (shiftOperand .sra (.reg .e) 2 s)

/-- `SRA H` (R230). -/
def execSraH (s : State) : Result := .next (shiftOperand .sra (.reg .h) 2 s)

/-- `SRA L` (R230). -/
def execSraL (s : State) : Result := .next (shiftOperand .sra (.reg .l) 2 s)

/-- `SRA (HL)` (R231). -/
def execSraMHl (s : State) : Result := .next (shiftOperand .sra .memHl 2 s)

/-- `SRA A` (R230). -/
def execSraA (s : State) : Result := .next (shiftOperand .sra (.reg .a) 2 s)

/-- `SRL B` (R232). -/
def execSrlB (s : State) : Result := .next (shiftOperand .srl (.reg .b) 2 s)

/-- `SRL C` (R232). -/
def execSrlC (s : State) : Result := .next (shiftOperand .srl (.reg .c) 2 s)

/-- `SRL D` (R232). -/
def execSrlD (s : State) : Result := .next (shiftOperand .srl (.reg .d) 2 s)

/-- `SRL E` (R232). -/
def execSrlE (s : State) : Result := .next (shiftOperand .srl (.reg .e) 2 s)

/-- `SRL H` (R232). -/
def execSrlH (s : State) : Result := .next (shiftOperand .srl (.reg .h) 2 s)

/-- `SRL L` (R232). -/
def execSrlL (s : State) : Result := .next (shiftOperand .srl (.reg .l) 2 s)

/-- `SRL (HL)` (R233). -/
def execSrlMHl (s : State) : Result := .next (shiftOperand .srl .memHl 2 s)

/-- `SRL A` (R232). -/
def execSrlA (s : State) : Result := .next (shiftOperand .srl (.reg .a) 2 s)

/-- `SWAP B` (R234). -/
def execSwapB (s : State) : Result := .next (shiftOperand .swap (.reg .b) 2 s)

/-- `SWAP C` (R234). -/
def execSwapC (s : State) : Result := .next (shiftOperand .swap (.reg .c) 2 s)

/-- `SWAP D` (R234). -/
def execSwapD (s : State) : Result := .next (shiftOperand .swap (.reg .d) 2 s)

/-- `SWAP E` (R234). -/
def execSwapE (s : State) : Result := .next (shiftOperand .swap (.reg .e) 2 s)

/-- `SWAP H` (R234). -/
def execSwapH (s : State) : Result := .next (shiftOperand .swap (.reg .h) 2 s)

/-- `SWAP L` (R234). -/
def execSwapL (s : State) : Result := .next (shiftOperand .swap (.reg .l) 2 s)

/-- `SWAP (HL)` (R235). -/
def execSwapMHl (s : State) : Result := .next (shiftOperand .swap .memHl 2 s)

/-- `SWAP A` (R234). -/
def execSwapA (s : State) : Result := .next (shiftOperand .swap (.reg .a) 2 s)

end Sys2Proof.Machine
end

