-- ==== Sys2Proof/Machine/Prefix.lean ====
section
/-! DEFINITION. The CB prefix (R300): "It is not an instruction by itself: it makes the next byte
`op2 = MemRead(pc+1, 1)` the opcode of a CB-table instruction". The decoder reads prefix and second
byte together and answers the CB-table instruction; this is the meaning of the prefix's own row of
the opcode table, read off the fields of `op2` (R92; log 5). -/
namespace Sys2Proof.Machine

/-- `execute CB-table[op2]`, by the fields x, y, z of `op2` (R92). -/
def executeCb (op2 : Byte) (s : State) : State :=
  match fieldX op2 with
  | 0 => shiftOperand (shiftOfCode (fieldY op2)) (operandOfCode (fieldZ op2)) 2 s
  | 1 => testBit (fieldY op2) (operandOfCode (fieldZ op2)) s
  | 2 => resetBit (fieldY op2) (operandOfCode (fieldZ op2)) s
  | 3 => setBit (fieldY op2) (operandOfCode (fieldZ op2)) s

/-- `PREFIX CB` (R300). -/
def execPrefixCb (s : State) : Result := .next (executeCb (s.readByte (s.pc + 1)) s)

end Sys2Proof.Machine
end

