-- ==== Sys2Proof/Machine/Boundary.lean ====
section
/-! DEFINITION. What happens at a step boundary (R320): the fault latch, the interrupt check, the
idle step, or one whole instruction fetched, decoded and executed (R82). -/
namespace Sys2Proof.Machine

/-- What an instruction does with the parameters `cfg`. The one that a parameter bears on is STOP, by
`P_STOP_LEN` (R297); `exec` is this at the spec's parameters. -/
def execWith (cfg : Config) (i : Instr) (s : State) : Result :=
  match i with
  | .stop => .next (enterStop cfg s)
  | i => exec i s

/-- Fetch, decode and execute one instruction (R82). Its bytes are read before any of its effects
(R70). A byte that selects no instruction raises UnknownInstruction with its address; pc stays
(R311). A read has no side effect (R60), so reading a byte that the instruction does not have
cannot be seen (log 12). -/
def executeNext (cfg : Config) (s : State) : Result :=
  match decodeBytes (s.readByte s.pc) (s.readByte (s.pc + 1)) (s.readByte (s.pc + 2)) with
  | .ok i => execWith cfg i s
  | .error (.unknownInstruction b) => .next (s.raise (.unknownInstruction b s.pc))
  | .error .truncated => .next (s.raise (.unknownInstruction (s.readByte s.pc) s.pc))

/-- One step with the parameters `cfg`, in the order of R320: on a faulted state the identity
(R313); interrupt entry (R324); the idle step, which changes nothing (R326); one instruction. -/
def stepWith (cfg : Config) (s : State) : Result :=
  match s.fault with
  | some _ => .next s
  | none =>
    if s.takesInterrupt cfg then .next s.interruptEntry
    else if s.halted then .next s
    else executeNext cfg s

/-- `s` ready to run the three bytes as its next instruction: they stand at pc, and nothing that
R320 puts before the fetch is in the way (no latched fault, not halted, no interrupt to take). Where
nothing is in the way only memory changes (log 8). -/
def State.withBytesAtPc (s : State) (b0 b1 b2 : Byte) : State :=
  let t := ((s.writeByte s.pc b0).writeByte (s.pc + 1) b1).writeByte (s.pc + 2) b2
  { t with fault := none, halted := false, ime := t.ime && (t.pendingInterrupts == 0) }

end Sys2Proof.Machine
end

