-- ==== Sys2Proof/Machine/Step.lean ====
section
/-! DEFINITION. The machine's step: the core alone (EXT the identity, D28) at the spec's default
parameters; and the placing of one instruction where the next step fetches. -/
namespace Sys2Proof.Machine

/-- One step of the core at the parameters R7 chooses. -/
def step (s : State) : Host.Outcome State Fault Refusal := stepWith Config.default s

/-- `s` with the opcode-table word `w` stored where the next step fetches (log 7, log 8). -/
def State.withFetchWord (s : State) (nbits w : Nat) : State :=
  match tableWordBytes nbits w with
  | (b0, b1, b2) => s.withBytesAtPc b0 b1 b2

end Sys2Proof.Machine
end

