-- ==== Sys2Proof/Machine/External.lean ====
section
/-! DEFINITION. What is outside the core and reaches it: the writes that external agents make to
memory at a step boundary (`EXT`, R63), and the images the host loads before the first step (R355).
The core alone takes EXT as the identity (D28); here it is an argument. -/
namespace Sys2Proof.Machine

/-- The writes external agents make at one boundary, first to last. -/
abbrev ExtWrites := List (Word × Byte)

/-- The state with a boundary's external writes made (R63). -/
def State.external (s : State) (ws : ExtWrites) : State :=
  ws.foldl (fun t w => t.writeByte w.1 w.2) s

/-- One step at a boundary where external agents make the writes `ws`: they "are applied before
item 1 reads anything" (R320). -/
def stepExt (cfg : Config) (ws : ExtWrites) (s : State) : Result := stepWith cfg (s.external ws)

/-- The conservative envelope of R63: any byte of 0xFF00 to 0xFF7F, and 0x0000 to 0x00FF at the
boundary after a nonzero store to 0xFF50 (`bootDisabled`). -/
def ExtWrites.inEnvelope (bootDisabled : Bool) (ws : ExtWrites) : Bool :=
  ws.all fun w =>
    (decide (0xFF00 ≤ w.1.toNat) && decide (w.1.toNat ≤ 0xFF7F)) ||
      (bootDisabled && decide (w.1.toNat ≤ 0x00FF))

/-- The bytes of an image at ascending addresses from `start`, as writes. -/
def imageWrites : Nat → List Byte → ExtWrites
  | _, [] => []
  | start, b :: bs => (BitVec.ofNat 16 start, b) :: imageWrites (start + 1) bs

/-- `INIT_MEM` from a cartridge image and a boot-ROM image: the cartridge "copied into memory
starting at 0x0000; its first 256 bytes are then overwritten by the boot ROM" (R355). Of images of
another size than the spec supposes it says nothing. DESIGN CHOICE (log 14): a cartridge is cut at the
65536 bytes that memory has, not wrapped, and a boot image at 256 bytes; of one shorter than 256
bytes, as many bytes as it has are copied. -/
def initMem (cart boot : List Byte) : Memory :=
  (imageWrites 0 (cart.take 65536) ++ imageWrites 0 (boot.take 256)).foldl
    (fun m w => m.write w.1 w.2) []

/-- The driver's restore after a nonzero store to 0xFF50: the cartridge's first 256 bytes (R62). DESIGN
CHOICE (log 14): of a cartridge shorter than that, the bytes it has; the boot ROM's stay after them. -/
def restoreBoot (cart : List Byte) : ExtWrites := imageWrites 0 (cart.take 256)

/-- The serial debug convention: "when SC equals 0x81 ... SC is cleared" (R63). -/
def serialAcknowledge (s : State) : ExtWrites :=
  if s.readByte 0xFF02 = 0x81 then [(0xFF02, 0x00)] else []

/-- LY (0xFF44) advanced by the rendering timing helper, to a value the helper chooses (R63). -/
def advanceLy (ly : Byte) : ExtWrites := [(0xFF44, ly)]

end Sys2Proof.Machine
end

