-- ==== Sys2Proof/Machine/Frame.lean ====
section
/-! DEFINITION. The words the statements are written in: what a step keeps of each kind of state, the
destination of an operand position, the two bytes of a stack register, which instructions transfer
control and which push. They define no behaviour. -/
namespace Sys2Proof.Machine

/-- Every 8-bit register but those listed holds in `t` what it held in `s`. -/
def State.RegsKept (s t : State) (but : List Reg8) : Prop :=
  ∀ r : Reg8, r ∉ but → t.getR8 r = s.getR8 r

/-- Every flag but those listed holds in `t` what it held in `s`. -/
def State.FlagsKept (s t : State) (but : List Flag) : Prop :=
  ∀ fl : Flag, fl ∉ but → t.flag fl = s.flag fl

/-- Bits 3 to 0 of F hold in `t` what they held in `s`. -/
def State.LowNibbleKept (s t : State) : Prop := t.f &&& 0x0F = s.f &&& 0x0F

/-- IME, HALTED and FAULT hold in `t` what they held in `s`. -/
def State.ControlKept (s t : State) : Prop :=
  t.ime = s.ime ∧ t.halted = s.halted ∧ t.fault = s.fault

/-- Every byte of memory but those at the listed addresses reads in `t` as it read in `s`. -/
def State.MemoryKept (s t : State) (but : List Word) : Prop :=
  ∀ a : Word, a ∉ but → t.readByte a = s.readByte a

/-- What `t` keeps of `s`, but for pc, SP and the low nibble of F, which every statement gives for
itself: all registers but `regs`, all flags but `flags`, IME, HALTED, FAULT, all bytes of memory but
those at `addrs`. -/
def State.Frame (s t : State) (regs : List Reg8) (flags : List Flag) (addrs : List Word) : Prop :=
  s.RegsKept t regs ∧ s.FlagsKept t flags ∧ s.ControlKept t ∧ s.MemoryKept t addrs

/-- The registers a write of an operand position changes. -/
def destRegs : Operand8 → List Reg8
  | .reg r => [r]
  | .memHl => []

/-- The addresses a write of an operand position stores to. -/
def destAddrs (s : State) : Operand8 → List Word
  | .reg _ => []
  | .memHl => [s.hl]

/-- The registers a 16-bit register is made of (R22). -/
def pairRegs : Reg16 → List Reg8
  | .bc => [.b, .c]
  | .de => [.d, .e]
  | .hl => [.h, .l]
  | .sp => []

/-- The registers of a stack register, F aside (R22). -/
def stkRegs : RegStk → List Reg8
  | .bc => [.b, .c]
  | .de => [.d, .e]
  | .hl => [.h, .l]
  | .af => [.a]

/-- The byte a push of the register stores first: B, D, H or A (R22). -/
def stkHigh (s : State) : RegStk → Byte
  | .bc => s.b
  | .de => s.d
  | .hl => s.h
  | .af => s.a

/-- The byte a push of the register stores second: C, E, L, or F with its low nibble 0 (R22, R147). -/
def stkLow (s : State) : RegStk → Byte
  | .bc => s.c
  | .de => s.e
  | .hl => s.l
  | .af => s.f &&& 0xF0

/-- The control transfers: JP, JR, CALL, RST, RET, RETI, with a condition or without (R25). -/
def TransfersControl (i : Instr) : Prop :=
  i = .jpHl ∨ i = .ret ∨ i = .reti ∨ (∃ a, i = .jpA16 a) ∨ (∃ e, i = .jrE8 e) ∨
    (∃ a, i = .callA16 a) ∨ (∃ cc a, i = Instr.jpIf cc a) ∨ (∃ cc e, i = Instr.jrIf cc e) ∨
    (∃ cc a, i = Instr.callIf cc a) ∨ (∃ cc, i = Instr.retIf cc) ∨ (∃ y, i = Instr.rst y)

/-- The instruction pushes in this state: PUSH, CALL, CALL cc when taken, RST (R314). -/
def Pushes (s : State) (i : Instr) : Prop :=
  (∃ r, i = Instr.push r) ∨ (∃ a, i = .callA16 a) ∨
    (∃ cc a, i = Instr.callIf cc a ∧ s.cond cc = true) ∨ (∃ y, i = Instr.rst y)

/-- `i` is the ALU operation `op` on A and a second operand whose value in `s` is `v`, an instruction
of `len` bytes: a register or the byte at HL (1 byte), or the immediate byte (2 bytes) (R160). -/
def AluForm (op : AluOp) (i : Instr) (s : State) (v : Byte) (len : Word) : Prop :=
  (∃ o, i = Instr.alu op o ∧ v = s.getOperand o ∧ len = 1) ∨ (i = Instr.aluImm op v ∧ len = 2)

/-- `i` is the rotate, shift or SWAP `op` on the operand position `o`, an instruction of `len` bytes:
an accumulator short form (1 byte) or a CB-table form (2 bytes) (R215). -/
def ShiftForm (op : ShiftOp) (o : Operand8) (i : Instr) (len : Word) : Prop :=
  (o = .reg .a ∧ len = 1 ∧
    ((op = .rlc ∧ i = .rlca) ∨ (op = .rl ∧ i = .rla) ∨ (op = .rrc ∧ i = .rrca) ∨
      (op = .rr ∧ i = .rra))) ∨
  (i = Instr.shift op o ∧ len = 2)

/-- Bit `k` of the result of an operation of the table of R215 on the byte `v`, read bit by bit from
its column "in words"; `cin` is F.C before the instruction. -/
def shiftedBit (op : ShiftOp) (v : Byte) (cin : Bool) (k : Nat) : Bool :=
  match op with
  | .rlc => v.getLsbD ((k + 7) % 8)
  | .rl => if k = 0 then cin else v.getLsbD (k - 1)
  | .rrc => v.getLsbD ((k + 1) % 8)
  | .rr => if k = 7 then cin else v.getLsbD (k + 1)
  | .sla => if k = 0 then false else v.getLsbD (k - 1)
  | .sra => if k = 7 then v.getLsbD 7 else v.getLsbD (k + 1)
  | .srl => if k = 7 then false else v.getLsbD (k + 1)
  | .swap => v.getLsbD ((k + 4) % 8)

/-- The bit an operation of the table of R215 shifts out; SWAP shifts out none. -/
def shiftedOut (op : ShiftOp) (v : Byte) : Bool :=
  match op with
  | .rlc | .rl | .sla => v.getLsbD 7
  | .rrc | .rr | .sra | .srl => v.getLsbD 0
  | .swap => false

/-- The byte that holds two decimal digits (the glossary's BCD correction, R12). -/
def bcd (n : Nat) : Byte := BitVec.ofNat 8 (16 * (n / 10) + n % 10)

/-- The eleven first bytes that select no instruction (R93). -/
def undefinedBytes : List Byte :=
  [0xD3, 0xDB, 0xDD, 0xE3, 0xE4, 0xEB, 0xEC, 0xED, 0xF4, 0xFC, 0xFD]

/-- The instruction bytes at pc decode to `i` (R82). -/
def DecodesAtPc (s : State) (i : Instr) : Prop :=
  decodeBytes (s.readByte s.pc) (s.readByte (s.pc + 1)) (s.readByte (s.pc + 2)) = .ok i

/-- The next step executes an instruction: no fault is latched, no interrupt is taken, the core is
not halted (R320). -/
def Executes (cfg : Config) (s : State) : Prop :=
  s.fault = none ∧ s.takesInterrupt cfg = false ∧ s.halted = false

end Sys2Proof.Machine
end

