-- ==== Sys2Proof/Machine/Timing.lean ====
section
/-! DEFINITION. The outputs of a step that are no state: its status and its cost in T-states (R340,
R364). No rule reads a cost (R364); the table is the parameter `CYC` with the default of R365
(log 9). -/
namespace Sys2Proof.Machine

/-- The status a step returns (R340). -/
inductive Status where
  | ok
  | unknownOpcode
  | stackUnderflowFault
  deriving DecidableEq, Repr

/-- What a step returns beside the state: cycles "present exactly when status is ok" (R340). -/
structure StepResult where
  status : Status
  cycles : Option Nat
  deriving DecidableEq, Repr

/-- The parameter `CYC`: the cost of an instruction, taken or not, of interrupt entry, of an idle
step (R7). -/
structure CycleTable where
  instr : Instr → Bool → Nat
  interruptEntry : Nat
  idle : Nat

/-- The costs of the base table by first byte, row = high nibble, column = low nibble; a conditional
instruction's cost is the one not taken, the prefix's and an undefined byte's cell is 0 and not
used (R365). -/
def baseCycles : List (List Nat) :=
  [[4, 12, 8, 8, 4, 4, 8, 4, 20, 8, 8, 8, 4, 4, 8, 4],
   [4, 12, 8, 8, 4, 4, 8, 4, 8, 8, 8, 8, 4, 4, 8, 4],
   [8, 12, 8, 8, 4, 4, 8, 4, 8, 8, 8, 8, 4, 4, 8, 4],
   [8, 12, 8, 8, 12, 12, 12, 4, 8, 8, 8, 8, 4, 4, 8, 4],
   [4, 4, 4, 4, 4, 4, 8, 4, 4, 4, 4, 4, 4, 4, 8, 4],
   [4, 4, 4, 4, 4, 4, 8, 4, 4, 4, 4, 4, 4, 4, 8, 4],
   [4, 4, 4, 4, 4, 4, 8, 4, 4, 4, 4, 4, 4, 4, 8, 4],
   [8, 8, 8, 8, 8, 8, 4, 8, 4, 4, 4, 4, 4, 4, 8, 4],
   [4, 4, 4, 4, 4, 4, 8, 4, 4, 4, 4, 4, 4, 4, 8, 4],
   [4, 4, 4, 4, 4, 4, 8, 4, 4, 4, 4, 4, 4, 4, 8, 4],
   [4, 4, 4, 4, 4, 4, 8, 4, 4, 4, 4, 4, 4, 4, 8, 4],
   [4, 4, 4, 4, 4, 4, 8, 4, 4, 4, 4, 4, 4, 4, 8, 4],
   [8, 12, 12, 16, 12, 16, 8, 16, 8, 16, 12, 0, 12, 24, 8, 16],
   [8, 12, 12, 0, 12, 16, 8, 16, 8, 16, 12, 0, 12, 0, 8, 16],
   [12, 12, 8, 0, 0, 16, 8, 16, 16, 4, 16, 0, 0, 0, 8, 16],
   [12, 12, 8, 4, 0, 16, 8, 16, 12, 8, 16, 4, 0, 0, 8, 16]]

/-- The condition of a conditional instruction (R265). -/
def Instr.condition : Instr → Option Cond
  | .jrNzE8 _ => some .nz
  | .jrZE8 _ => some .z
  | .jrNcE8 _ => some .nc
  | .jrCE8 _ => some .c
  | .retNz => some .nz
  | .jpNzA16 _ => some .nz
  | .callNzA16 _ => some .nz
  | .retZ => some .z
  | .jpZA16 _ => some .z
  | .callZA16 _ => some .z
  | .retNc => some .nc
  | .jpNcA16 _ => some .nc
  | .callNcA16 _ => some .nc
  | .retC => some .c
  | .jpCA16 _ => some .c
  | .callCA16 _ => some .c
  | _ => none

/-- What a conditional instruction costs more when taken: JP cc 4, JR cc nothing, CALL cc and RET cc
12 (R365). -/
def takenExtra : Instr → Nat
  | .jpNzA16 _ | .jpZA16 _ | .jpNcA16 _ | .jpCA16 _ => 4
  | .callNzA16 _ | .callZA16 _ | .callNcA16 _ | .callCA16 _ => 12
  | .retNz | .retZ | .retNc | .retC => 12
  | _ => 0

/-- The cost of a CB-table instruction by its second byte, prefix included: 8 on a register; on (HL)
12 for BIT, else 16 (R365). -/
def cbCycles (op2 : Byte) : Nat :=
  if fieldZ op2 ≠ 6 then 8 else if fieldX op2 = 1 then 12 else 16

/-- The default cost of an instruction (R365). -/
def defaultCycles (i : Instr) (taken : Bool) : Nat :=
  match encode i with
  | [0xCB, op2] => cbCycles op2
  | op :: _ => ((cellAt baseCycles op).getD 0) + (if taken then takenExtra i else 0)
  | [] => 0

/-- The default of `CYC` (R365): interrupt entry 20, idle step 4. -/
def CycleTable.default : CycleTable :=
  { instr := defaultCycles, interruptEntry := 20, idle := 4 }

/-- Whether an instruction executed in `s` is taken: an unconditional one always is. -/
def State.takes (s : State) (i : Instr) : Bool :=
  match Instr.condition i with
  | some cc => s.cond cc
  | none => true

/-- The status a latched fault is returned as (R311, R314). -/
def statusOf : Option Fault → Status
  | none => .ok
  | some (.unknownInstruction _ _) => .unknownOpcode
  | some .stackFault => .stackUnderflowFault

/-- The cost of the step at `s` if it succeeds (R324, R326, R365). -/
def costOf (cfg : Config) (cyc : CycleTable) (s : State) : Nat :=
  if s.takesInterrupt cfg then cyc.interruptEntry
  else if s.halted then cyc.idle
  else
    match decodeBytes (s.readByte s.pc) (s.readByte (s.pc + 1)) (s.readByte (s.pc + 2)) with
    | .ok i => cyc.instr i (s.takes i)
    | .error _ => 0

/-- What the step at `s` returns beside the new state: the status of the latch after it, and the
cost where that is ok; a faulting or refused step reports none (R312, R313, R340). -/
def stepResult (cfg : Config) (cyc : CycleTable) (s : State) : StepResult :=
  match stepWith cfg s with
  | .next t =>
    match t.fault with
    | none => { status := .ok, cycles := some (costOf cfg cyc s) }
    | some f => { status := statusOf (some f), cycles := none }
  | .fault f => { status := statusOf (some f), cycles := none }
  | .refused _ => { status := .ok, cycles := none }

end Sys2Proof.Machine
end

