-- ==== Sys2Proof/Safety.lean ====
section
/-! DEFINITION. What counts as a good state and a final one: the invariant every step keeps, and
the end conditions of R343. -/
namespace Sys2Proof.Machine

/-- "The low nibble of F is always zero" (R21). -/
def State.lowNibbleZero (s : State) : Bool := s.f &&& 0x0F == 0x00

/-- The invariant: F's low nibble reads as zero (R21), and memory is in its canonical form
(log 11). -/
def State.inv (s : State) : Bool := s.lowNibbleZero && s.mem.wf

/-- `FAULT != none`, the fatal stop (R343). -/
def State.faulted (s : State) : Bool := s.fault.isSome

/-- `HALTED == 1` "with no way out under rule R327": every further step is idle (R343), here whatever
external agents write between steps. DESIGN CHOICE (log 15): the spec leaves EXT open and does not say
against which EXT there is no way out. This takes it against every list of writes, so that a halted
core with IME = 1 and no enabled request is not final, since a write to IF can wake it;
`State.quiescentAlone` takes EXT as the identity. -/
def State.quiescent (cfg : Config) (s : State) : Bool :=
  !s.faulted && s.halted && !(cfg.irqDispatch && s.ime)

/-- The same end condition with EXT the identity, as `step` takes it (log 4, log 15): no interrupt is
taken at this boundary, so none is at any later one. -/
def State.quiescentAlone (cfg : Config) (s : State) : Bool :=
  !s.faulted && s.halted && !s.takesInterrupt cfg

/-- A state the machine can go on from: the invariant holds and no fault is latched. -/
def State.safe (s : State) : Bool := s.inv && !s.faulted

end Sys2Proof.Machine
end

