-- ==== Sys2Proof/Certificates/Slice0/Obligations.lean ====
section
/-! DEFINITION. What is to be proved of the machine. A result statement says that an instruction
answers a next state and which: its result, its flags, pc, SP, and by `State.Frame` everything it
leaves alone. Where a stored byte is read back the memory is taken in its canonical form, which
`Obligations.EveryStepKeepsMemoryCanonical` states of every step (log 11). -/

open Sys2Proof Sys2Proof.Machine

/-- Decoding the bytes of an instruction gives it back, with every operand, whatever bytes follow.
Derived: 30_encoding.md section 2, 30_encoding.md section 3. -/
def Obligations.DecodeOfEncodeIsTheInstruction : Prop :=
  ∀ (i : Instr) (rest : List Byte), i.wellFormed = true →
    decode (encode i ++ rest) = .ok (i, rest) ∧
    ∀ cfg : Config, 0 < cfg.stopLen → decodeWith cfg (encodeWith cfg i ++ rest) = .ok (i, rest)

/-- No bit of an instruction's bytes is dropped by decoding, STOP's ignored byte apart. Derived:
30_encoding.md section 2, 30_encoding.md section 6. -/
def Obligations.EncodeOfDecodedBytesIsTheBytes : Prop :=
  ∀ (b0 b1 b2 : Byte) (i : Instr), decodeBytes b0 b1 b2 = .ok i →
    i.wellFormed = true ∧ (i = .stop ↔ b0 = 0x10) ∧
      (i ≠ .stop → ∀ cfg : Config, encode i = [b0, b1, b2].take (lengthOf cfg b0))

/-- The blocks x = 1 and x = 2 of the base table and the whole CB table decode by the fields y and
z. Derived: 30_encoding.md section 4, 30_encoding.md section 5. -/
def Obligations.OpcodeFieldsSelectTheInstruction : Prop :=
  ∀ (y z : Fin 8) (b1 b2 : Byte),
    decodeBytes (BitVec.ofNat 8 (0x40 + 8 * y.val + z.val)) b1 b2 =
        .ok (match operandOfCode y, operandOfCode z with
          | .reg dst, .reg src => Instr.ldRegReg dst src
          | .reg dst, .memHl => Instr.ldRegMem dst
          | .memHl, .reg r => Instr.ldMemReg r
          | .memHl, .memHl => .halt) ∧
      decodeBytes (BitVec.ofNat 8 (0x80 + 8 * y.val + z.val)) b1 b2 =
        .ok (Instr.alu (aluOfCode y) (operandOfCode z)) ∧
      decodeBytes 0xCB (BitVec.ofNat 8 (8 * y.val + z.val)) b2 =
        .ok (Instr.shift (shiftOfCode y) (operandOfCode z)) ∧
      decodeBytes 0xCB (BitVec.ofNat 8 (0x40 + 8 * y.val + z.val)) b2 =
        .ok (Instr.bit y (operandOfCode z)) ∧
      decodeBytes 0xCB (BitVec.ofNat 8 (0x80 + 8 * y.val + z.val)) b2 =
        .ok (Instr.res y (operandOfCode z)) ∧
      decodeBytes 0xCB (BitVec.ofNat 8 (0xC0 + 8 * y.val + z.val)) b2 =
        .ok (Instr.set y (operandOfCode z))

/-- Words of each family, written out from the spec's examples, decode to their instructions.
Derived: 30_encoding.md section 4, 95_test_vectors.md. -/
def Obligations.SampleWordsDecode : Prop :=
  decodeBytes 0x3E 0x42 0xFF = .ok (.ldAD8 0x42) ∧
    decodeBytes 0x08 0x00 0xC1 = .ok (.ldMA16Hl 0xC100) ∧
    decodeBytes 0xF5 0xFF 0xFF = .ok .pushAf ∧
    decodeBytes 0x8B 0xFF 0xFF = .ok .adcAE ∧
    decodeBytes 0xE8 0x02 0xFF = .ok (.addSpE8 0x02) ∧
    decodeBytes 0xCB 0x15 0xFF = .ok .rlL ∧
    decodeBytes 0xCB 0x7C 0xFF = .ok .bit7H ∧
    decodeBytes 0xCD 0x50 0x01 = .ok (.callA16 0x0150) ∧
    decodeBytes 0x27 0xFF 0xFF = .ok .daa ∧
    decodeBytes 0xD9 0xFF 0xFF = .ok .reti ∧
    decodeBytes 0x76 0xFF 0xFF = .ok .halt

/-- Exactly eleven first bytes decode to nothing, and a step that fetches one only latches the
fault. Derived: 30_encoding.md section 6, 60_exceptions.md section 2, 92_eei_decisions.md D2, D4.
-/
def Obligations.UndefinedFirstByteLatchesFault : Prop :=
  (∀ b0 b1 b2 : Byte,
    (b0 ∈ undefinedBytes → decodeBytes b0 b1 b2 = .error (.unknownInstruction b0)) ∧
    (b0 ∉ undefinedBytes → ∃ i, decodeBytes b0 b1 b2 = .ok i)) ∧
  (∀ (cfg : Config) (s : State), Executes cfg s → s.readByte s.pc ∈ undefinedBytes →
    stepWith cfg s =
      .next { s with fault := some (.unknownInstruction (s.readByte s.pc) s.pc) })

/-- Where the bytes at pc decode to an instruction, a step is exec of it at that state. Derived:
30_encoding.md section 2, 60_exceptions.md section 3, 47_misc.md, 92_eei_decisions.md D21. -/
def Obligations.StepRunsTheDecodedInstruction : Prop :=
  (∀ (cfg : Config) (s : State) (i : Instr), Executes cfg s → DecodesAtPc s i →
    stepWith cfg s = execWith cfg i s) ∧
  (∀ (s : State) (i : Instr), Executes Config.default s → DecodesAtPc s i → step s = exec i s) ∧
  (∀ (cfg : Config) (s : State) (i : Instr),
    (i ≠ .stop → execWith cfg i s = exec i s) ∧ execWith Config.default i s = exec i s ∧
    execWith cfg .stop s =
      .next { s with halted := true, pc := s.pc + BitVec.ofNat 16 cfg.stopLen })

/-- A step runs the instruction whose encoding stands at pc, also across the top of memory.
Derived: 30_encoding.md section 2, 10_state.md section 2. -/
def Obligations.StepRunsTheEncodedInstruction : Prop :=
  ∀ (cfg : Config) (s : State) (i : Instr), i.wellFormed = true → Executes cfg s →
    (∀ (k : Nat) (b : Byte), (encodeWith cfg i)[k]? = some b →
      s.readByte (s.pc + BitVec.ofNat 16 k) = b) →
    stepWith cfg s = execWith cfg i s ∧ (cfg = Config.default → stepWith cfg s = exec i s)

/-- A step on a faulted state, and a step while halted with no interrupt to take, are the
identity. Derived: 60_exceptions.md section 2, 60_exceptions.md section 6, 60_exceptions.md
section 8, 92_eei_decisions.md D6, D20. -/
def Obligations.FaultedAndIdleStepsChangeNothing : Prop :=
  ∀ (cfg : Config) (s : State),
    (s.fault ≠ none → stepWith cfg s = .next s) ∧
    (s.fault = none → s.halted = true → s.takesInterrupt cfg = false → stepWith cfg s = .next s) ∧
    (s.quiescent cfg = true → ∀ ws : ExtWrites, stepExt cfg ws s = .next (s.external ws) ∧
      (s.external ws).quiescent cfg = true) ∧
    (s.quiescentAlone cfg = true → stepWith cfg s = .next s)

/-- Interrupt entry: the lowest pending bit is cleared, pc is pushed, IME and HALTED fall, pc is
its vector. Derived: 60_exceptions.md section 4, 92_eei_decisions.md D5, D19, D32. -/
def Obligations.InterruptEntry : Prop :=
  ∀ (cfg : Config) (s : State) (k : Nat), cfg.irqDispatch = true → s.fault = none → s.ime = true →
    k < 5 → (s.readByte 0xFFFF).getLsbD k = true → (s.readByte 0xFF0F).getLsbD k = true →
    (∀ j < k, ((s.readByte 0xFFFF).getLsbD j && (s.readByte 0xFF0F).getLsbD j) = false) →
    (s.sp = 0 → stepWith cfg s = .next { s with fault := some .stackFault }) ∧
    (s.sp ≠ 0 → s.mem.wf = true → ∃ t : State, stepWith cfg s = .next t ∧
      t.pc.toNat = 0x40 + 8 * k ∧ t.sp = s.sp - 2 ∧ t.ime = false ∧ t.halted = false ∧
      t.fault = none ∧ t.f = s.f ∧ s.RegsKept t [] ∧
      (t.readByte (s.sp - 1)).toNat = s.pc.toNat / 256 ∧
      (t.readByte (s.sp - 2)).toNat = s.pc.toNat % 256 ∧
      (0xFF0F ∉ [s.sp - 1, s.sp - 2] → ∀ j < 8, (t.readByte 0xFF0F).getLsbD j =
        ((s.readByte 0xFF0F).getLsbD j && decide (j ≠ k))) ∧
      s.MemoryKept t [0xFF0F, s.sp - 1, s.sp - 2])

/-- With P_IRQ_DISPATCH false no step is an interrupt entry, whatever IME, IE and IF hold.
Derived: 60_exceptions.md section 4, 92_eei_decisions.md D19. -/
def Obligations.DispatchOffNeverTakesAnInterrupt : Prop :=
  ∀ (cfg : Config) (s : State), cfg.irqDispatch = false → s.fault = none →
    (s.halted = true → stepWith cfg s = .next s) ∧
    (∀ i : Instr, s.halted = false → DecodesAtPc s i → stepWith cfg s = execWith cfg i s)

/-- A step leaves the halt state only by taking an interrupt, with IME = 1 and an enabled request.
Derived: 60_exceptions.md section 6, 92_eei_decisions.md D20. -/
def Obligations.HaltEndsOnlyByInterruptEntry : Prop :=
  ∀ (cfg : Config) (s t : State), s.halted = true → stepWith cfg s = .next t → t.halted = false →
    cfg.irqDispatch = true ∧ s.fault = none ∧ s.ime = true ∧
      s.readByte 0xFFFF &&& s.readByte 0xFF0F &&& 0x1F ≠ 0 ∧ s.sp ≠ 0 ∧
      t.pc ∈ [0x40, 0x48, 0x50, 0x58, 0x60]

/-- Every step keeps the low nibble of F zero, under any parameters. Stated: R21. -/
def Obligations.EveryStepKeepsLowNibbleZero : Prop :=
  (∀ (cfg : Config) (s t : State), s.f &&& 0x0F = 0 → stepWith cfg s = .next t →
    t.f &&& 0x0F = 0) ∧
  (∀ (i : Instr) (s t : State), s.f &&& 0x0F = 0 → exec i s = .next t → t.f &&& 0x0F = 0) ∧
  (∀ (s : State) (fl : Flag) (v : Bool), (s.setFlag fl v).flag fl = v ∧
    s.FlagsKept (s.setFlag fl v) [fl] ∧ s.LowNibbleKept (s.setFlag fl v)) ∧
  (∀ s t : State, exec .popAf s = .next t → t.f = s.readByte s.sp &&& 0xF0)

/-- Every step keeps memory in its canonical form, also after external writes. Derived:
20_memory.md section 1. -/
def Obligations.EveryStepKeepsMemoryCanonical : Prop :=
  ∀ (cfg : Config) (ws : ExtWrites) (s t : State), s.mem.wf = true →
    stepExt cfg ws s = .next t → t.mem.wf = true

/-- What reset leaves, and that the invariant holds there. Derived: 10_state.md section 7,
70_reset_and_hazards.md section 1, 92_eei_decisions.md D6, D22. -/
def Obligations.ResetState : Prop :=
  (∀ r, State.reset.getR8 r = 0x00) ∧ State.reset.f = 0x00 ∧
  State.reset.pc = 0x0000 ∧ State.reset.sp = 0xFFFE ∧ State.reset.ime = false ∧
  State.reset.halted = false ∧ State.reset.fault = none ∧ State.reset.mem = [] ∧
  State.reset.inv = true ∧
  (∀ (cfg : Config) (m : Memory), m.wf = true →
    let s := State.resetWith cfg m
    s.inv = true ∧ (∀ r, s.getR8 r = 0x00) ∧ s.f = 0x00 ∧ s.pc = cfg.resetPc ∧
      s.sp = cfg.resetSp ∧ s.ime = false ∧ s.halted = false ∧ s.fault = none ∧ s.mem = m)

/-- Every step from every state, and every instruction in every state, answers a next state.
Derived: 60_exceptions.md section 8, 60_exceptions.md section 2. -/
def Obligations.EveryStepAndInstructionCompletes : Prop :=
  (∀ (cfg : Config) (ws : ExtWrites) (s : State), ∃ t, stepExt cfg ws s = .next t) ∧
  (∀ (i : Instr) (s : State), ∃ t, exec i s = .next t)

/-- A step that raises a fault changes nothing but FAULT, and reports no cycle cost. Stated: R312.
-/
def Obligations.FaultingStepChangesOnlyFault : Prop :=
  ∀ (cfg : Config) (cyc : CycleTable) (s t : State), s.fault = none →
    stepWith cfg s = .next t → t.fault ≠ none →
    t = { s with fault := t.fault } ∧ (stepResult cfg cyc s).cycles = none

/-- StackFault is raised by a push with SP = 0x0000 and by nothing else. Derived: 60_exceptions.md
section 2, 92_eei_decisions.md D5. -/
def Obligations.StackFaultOnlyFromPushAtZero : Prop :=
  ∀ (cfg : Config) (s : State), s.fault = none →
    ((∃ t, stepWith cfg s = .next t ∧ t.fault = some .stackFault) ↔
      s.sp = 0 ∧ (s.takesInterrupt cfg = true ∨
        (s.halted = false ∧ ∃ i, DecodesAtPc s i ∧ Pushes s i)))

/-- IME is written only by DI, EI and RETI, HALTED only by HALT and STOP, among all instructions.
Derived: 10_state.md section 4, 47_misc.md, 46_control.md section 3. -/
def Obligations.WhoWritesImeAndHalted : Prop :=
  ∀ (i : Instr) (s t : State), exec i s = .next t →
    (i = .di → t.ime = false) ∧ (i = .ei ∨ i = .reti → t.ime = true) ∧
    (i ≠ .di → i ≠ .ei → i ≠ .reti → t.ime = s.ime) ∧
    (i = .halt ∨ i = .stop → t.halted = true) ∧
    (i ≠ .halt → i ≠ .stop → t.halted = s.halted)

/-- No instruction reads IME: what it does to all other state is the same whatever IME holds.
Derived: 10_state.md section 4. -/
def Obligations.NoInstructionReadsIme : Prop :=
  ∀ (i : Instr) (s : State) (x : Bool), ∃ t u : State,
    exec i s = .next t ∧ exec i { s with ime := x } = .next u ∧ u = { t with ime := u.ime }

/-- An instruction that transfers no control advances pc by its length, modulo 65536. Derived:
10_state.md section 2, 92_eei_decisions.md D31. -/
def Obligations.PcAdvancesByTheLength : Prop :=
  ∀ (cfg : Config) (i : Instr) (s t : State), 0 < cfg.stopLen → i.wellFormed = true →
    ¬ TransfersControl i → (∀ r, i = Instr.push r → s.sp ≠ 0) → execWith cfg i s = .next t →
    t.pc.toNat = (s.pc.toNat + (encodeWith cfg i).length) % 65536 ∧
      (cfg = Config.default → encodeWith cfg i = encode i ∧ execWith cfg i s = exec i s)

/-- A read returns the byte last written to that address, and a write replaces exactly that byte.
Stated: R50. -/
def Obligations.ReadGivesTheLastWrite : Prop :=
  ∀ (s : State) (ws : ExtWrites) (a : Word), s.mem.wf = true →
    (∀ (early late : ExtWrites) (v : Byte), ws = early ++ (a, v) :: late →
      (∀ w ∈ late, w.1 ≠ a) → (s.external ws).readByte a = v) ∧
    ((∀ w ∈ ws, w.1 ≠ a) → (s.external ws).readByte a = s.readByte a)

/-- Every 16-bit access has the low byte at the lower address, the high byte at the next. Derived:
20_memory.md section 3, 30_encoding.md section 3, 30_encoding.md section 4, 92_eei_decisions.md
D1, D11. -/
def Obligations.WordsAreLittleEndian : Prop :=
  ∀ (s : State) (a v : Word), s.mem.wf = true →
    (((s.writeWord a v).readByte a).toNat = v.toNat % 256 ∧
      ((s.writeWord a v).readByte (a + 1)).toNat = v.toNat / 256 ∧
      (s.writeWord a v).mem.readWord a = v ∧ s.MemoryKept (s.writeWord a v) [a, a + 1] ∧
      (s.mem.readWord a).toNat = 256 * (s.readByte (a + 1)).toNat + (s.readByte a).toNat) ∧
    (∃ t : State, exec (.ldMA16Hl a) s = .next t ∧
      (t.readByte a).toNat = s.hl.toNat % 256 ∧ (t.readByte (a + 1)).toNat = s.hl.toNat / 256 ∧
      t.mem.readWord a = s.hl) ∧
    (((s.pushWord v).readByte (s.sp - 2)).toNat = v.toNat % 256 ∧
      ((s.pushWord v).readByte (s.sp - 1)).toNat = v.toNat / 256 ∧
      (s.pushWord v).mem.readWord (s.pushWord v).sp = v ∧ (s.pushWord v).popValue = v) ∧
    (∀ rr : RegStk, s.sp ≠ 0 → ∃ t : State, exec (Instr.push rr) s = .next t ∧
      t.mem.readWord t.sp = s.getStk rr) ∧
    s.popValue.toNat = 256 * (s.readByte (s.sp + 1)).toNat + (s.readByte s.sp).toNat ∧
    (∀ rr : RegStk, rr ≠ .af → ∃ t : State, exec (Instr.pop rr) s = .next t ∧
      t.getStk rr = s.mem.readWord s.sp) ∧
    (∃ t : State, exec .ret s = .next t ∧ t.pc = s.mem.readWord s.sp) ∧
    (∀ b1 b2 : Byte, v.toNat = 256 * b2.toNat + b1.toNat →
      decodeBytes 0x01 b1 b2 = .ok (.ldBcD16 v) ∧ decodeBytes 0x11 b1 b2 = .ok (.ldDeD16 v) ∧
      decodeBytes 0x21 b1 b2 = .ok (.ldHlD16 v) ∧ decodeBytes 0x31 b1 b2 = .ok (.ldSpD16 v) ∧
      decodeBytes 0x08 b1 b2 = .ok (.ldMA16Hl v) ∧ decodeBytes 0xEA b1 b2 = .ok (.ldMA16A v) ∧
      decodeBytes 0xFA b1 b2 = .ok (.ldAMA16 v) ∧ decodeBytes 0xC3 b1 b2 = .ok (.jpA16 v) ∧
      decodeBytes 0xCD b1 b2 = .ok (.callA16 v) ∧
      decodeBytes 0xC2 b1 b2 = .ok (.jpNzA16 v) ∧ decodeBytes 0xCA b1 b2 = .ok (.jpZA16 v) ∧
      decodeBytes 0xD2 b1 b2 = .ok (.jpNcA16 v) ∧ decodeBytes 0xDA b1 b2 = .ok (.jpCA16 v) ∧
      decodeBytes 0xC4 b1 b2 = .ok (.callNzA16 v) ∧ decodeBytes 0xCC b1 b2 = .ok (.callZA16 v) ∧
      decodeBytes 0xD4 b1 b2 = .ok (.callNcA16 v) ∧ decodeBytes 0xDC b1 b2 = .ok (.callCA16 v))

/-- Two memories in canonical form that read the same everywhere are the same data. Derived:
20_memory.md section 1. -/
def Obligations.EqualReadsAreEqualMemories : Prop :=
  ∀ m n : Memory, m.wf = true → n.wf = true → (∀ a, m.read a = n.read a) → m = n

/-- INIT_MEM is the cartridge image from 0x0000, its first 256 bytes overwritten by the boot ROM.
Derived: 70_reset_and_hazards.md section 2. -/
def Obligations.InitialMemoryFromTheImages : Prop :=
  ∀ cart boot : List Byte, (initMem cart boot).wf = true ∧
    ∀ a : Word, (initMem cart boot).read a =
      if a.toNat < 256 ∧ a.toNat < boot.length then boot[a.toNat]?.getD 0
      else cart[a.toNat]?.getD Config.unlistedByte

/-- An external write of an enabled request to IF wakes a halted core at that very boundary.
Derived: 20_memory.md section 4, 60_exceptions.md section 3, 60_exceptions.md section 6,
92_eei_decisions.md D19, D20, D28. -/
def Obligations.ExternalRequestWakesTheCore : Prop :=
  ∀ (cfg : Config) (s : State) (v : Byte), cfg.irqDispatch = true → s.mem.wf = true →
    s.fault = none → s.halted = true → s.ime = true → s.sp ≠ 0 →
    s.readByte 0xFFFF &&& v &&& 0x1F ≠ 0 →
    ∃ t : State, stepExt cfg [(0xFF0F, v)] s = .next t ∧ t.halted = false ∧ t.ime = false ∧
      t.fault = none ∧ t.sp = s.sp - 2 ∧ t.pc ∈ [0x40, 0x48, 0x50, 0x58, 0x60]

/-- A store into the next instruction is seen by the very next fetch. Derived: 20_memory.md
section 6, 92_eei_decisions.md D25. -/
def Obligations.StoreIsSeenByTheNextFetch : Prop :=
  ∀ (s : State) (r : Reg8) (i : Instr), s.mem.wf = true → s.fault = none → s.halted = false →
    s.ime = false → DecodesAtPc s (Instr.ldMemReg r) → s.hl = s.pc + 1 →
    decodeBytes (s.getR8 r) (s.readByte (s.pc + 2)) (s.readByte (s.pc + 3)) = .ok i →
    ∃ t : State, step s = .next t ∧ t.pc = s.pc + 1 ∧ step t = exec i t

/-- Cycles are reported exactly when the status is ok; the default table's costs by family.
Derived: 60_exceptions.md section 8, 70_reset_and_hazards.md section 4, 92_eei_decisions.md D26.
-/
def Obligations.StepResultAndCycleTable : Prop :=
  (∀ (cfg : Config) (cyc : CycleTable) (s t : State), stepWith cfg s = .next t →
    ((stepResult cfg cyc s).status = .ok ↔ t.fault = none) ∧
    ((stepResult cfg cyc s).status = .ok ↔ (stepResult cfg cyc s).cycles ≠ none)) ∧
  (∀ (i : Instr) (b : Bool), i.wellFormed = true →
    defaultCycles i b ∈ [4, 8, 12, 16, 20, 24]) ∧
  (∀ (b : Bool) (dst r : Reg8) (v : Byte) (a : Word) (op : AluOp) (sh : ShiftOp) (cc : Cond)
      (n : Fin 8),
    defaultCycles (Instr.ldRegReg dst r) b = 4 ∧ defaultCycles (Instr.ldRegImm dst v) b = 8 ∧
    defaultCycles (Instr.alu op (.reg r)) b = 4 ∧ defaultCycles (Instr.alu op .memHl) b = 8 ∧
    defaultCycles (Instr.aluImm op v) b = 8 ∧
    defaultCycles (.jrE8 v) b = 8 ∧ defaultCycles (Instr.jrIf cc v) b = 8 ∧
    defaultCycles (Instr.jpIf cc a) b = (if b then 16 else 12) ∧
    defaultCycles (Instr.callIf cc a) b = (if b then 24 else 12) ∧
    defaultCycles (Instr.retIf cc) b = (if b then 20 else 8) ∧
    defaultCycles (Instr.shift sh (.reg r)) b = 8 ∧ defaultCycles (Instr.shift sh .memHl) b = 16 ∧
    defaultCycles (Instr.bit n (.reg r)) b = 8 ∧ defaultCycles (Instr.bit n .memHl) b = 12 ∧
    defaultCycles (Instr.set n (.reg r)) b = 8 ∧ defaultCycles (Instr.set n .memHl) b = 16 ∧
    defaultCycles (Instr.res n (.reg r)) b = 8 ∧ defaultCycles (Instr.res n .memHl) b = 16)

/-- LD r,r', LD r,d8 and LD r,(HL) put the byte in r, advance pc and change nothing else. Stated:
R111, R112, R113. -/
def Obligations.LoadRegister : Prop :=
  (∀ (s : State) (dst r : Reg8), ∃ t : State, exec (Instr.ldRegReg dst r) s = .next t ∧
    t.getR8 dst = s.getR8 r ∧ t.pc = s.pc + 1 ∧ t.sp = s.sp ∧ s.LowNibbleKept t ∧
      s.Frame t [dst] [] []) ∧
  (∀ (s : State) (dst : Reg8) (v : Byte), ∃ t : State, exec (Instr.ldRegImm dst v) s = .next t ∧
    t.getR8 dst = v ∧ t.pc = s.pc + 2 ∧ t.sp = s.sp ∧ s.LowNibbleKept t ∧ s.Frame t [dst] [] []) ∧
  (∀ (s : State) (dst : Reg8), ∃ t : State, exec (Instr.ldRegMem dst) s = .next t ∧
    t.getR8 dst = s.readByte s.hl ∧ t.pc = s.pc + 1 ∧ t.sp = s.sp ∧ s.LowNibbleKept t ∧
      s.Frame t [dst] [] [])

/-- LD (HL),r and LD (HL),d8 store the byte at HL, advance pc and change nothing else. Stated:
R114, R115. -/
def Obligations.StoreAtHl : Prop :=
  (∀ (s : State) (r : Reg8), ∃ t : State, exec (Instr.ldMemReg r) s = .next t ∧
    (s.mem.wf = true → t.readByte s.hl = s.getR8 r) ∧ t.pc = s.pc + 1 ∧ t.sp = s.sp ∧
      s.LowNibbleKept t ∧ s.Frame t [] [] [s.hl]) ∧
  (∀ (s : State) (v : Byte), ∃ t : State, exec (.ldMHlD8 v) s = .next t ∧
    (s.mem.wf = true → t.readByte s.hl = v) ∧ t.pc = s.pc + 2 ∧ t.sp = s.sp ∧
      s.LowNibbleKept t ∧ s.Frame t [] [] [s.hl])

/-- LD A,(BC), LD A,(DE), LD A,(a16), LDH A,(C) and LDH A,(a8) load the byte at their address.
Stated: R116, R117, R122, R124. -/
def Obligations.LoadAFromAddress : Prop :=
  ∀ (s : State) (i : Instr) (addr len : Word),
    (i = .ldAMBc ∧ addr = pair s.b s.c ∧ len = 1) ∨ (i = .ldAMDe ∧ addr = pair s.d s.e ∧
      len = 1) ∨
    (i = .ldAMA16 addr ∧ len = 3) ∨
    (i = .ldhAMC ∧ addr = BitVec.ofNat 16 (0xFF00 + s.c.toNat) ∧ len = 1) ∨
    (∃ a8 : Byte, i = .ldhAMA8 a8 ∧ addr = BitVec.ofNat 16 (0xFF00 + a8.toNat) ∧ len = 2) →
    ∃ t : State, exec i s = .next t ∧ t.a = s.readByte addr ∧ t.pc = s.pc + len ∧
      t.sp = s.sp ∧ s.LowNibbleKept t ∧ s.Frame t [.a] [] []

/-- LD (BC),A, LD (DE),A, LD (a16),A, LDH (C),A and LDH (a8),A store A at their address. Derived:
40_load8.md, 92_eei_decisions.md D3, D35. -/
def Obligations.StoreAToAddress : Prop :=
  ∀ (s : State) (i : Instr) (addr len : Word),
    (i = .ldMBcA ∧ addr = pair s.b s.c ∧ len = 1) ∨ (i = .ldMDeA ∧ addr = pair s.d s.e ∧
      len = 1) ∨
    (i = .ldMA16A addr ∧ len = 3) ∨
    (i = .ldhMCA ∧ addr = BitVec.ofNat 16 (0xFF00 + s.c.toNat) ∧ len = 1) ∨
    (∃ a8 : Byte, i = .ldhMA8A a8 ∧ addr = BitVec.ofNat 16 (0xFF00 + a8.toNat) ∧ len = 2) →
    ∃ t : State, exec i s = .next t ∧ (s.mem.wf = true → t.readByte addr = s.a) ∧
      t.pc = s.pc + len ∧ t.sp = s.sp ∧ s.LowNibbleKept t ∧ s.Frame t [] [] [addr]

/-- The (HL+) and (HL-) forms move the byte at the old HL, then adjust HL by one, modulo 65536.
Stated: R126, R127, R128, R129. -/
def Obligations.HlPostAdjust : Prop :=
  (∀ (s : State) (i : Instr) (delta : Word), (i = .ldMHlIncA ∧ delta = 1) ∨ (i = .ldMHlDecA ∧
    delta = -1) →
    ∃ t : State, exec i s = .next t ∧ (s.mem.wf = true → t.readByte s.hl = s.a) ∧
      t.hl = s.hl + delta ∧ t.pc = s.pc + 1 ∧ t.sp = s.sp ∧ s.LowNibbleKept t ∧
        s.Frame t [.h, .l] [] [s.hl]) ∧
  (∀ (s : State) (i : Instr) (delta : Word), (i = .ldAMHlInc ∧ delta = 1) ∨ (i = .ldAMHlDec ∧
    delta = -1) →
    ∃ t : State, exec i s = .next t ∧ t.a = s.readByte s.hl ∧
      t.hl = s.hl + delta ∧ t.pc = s.pc + 1 ∧ t.sp = s.sp ∧ s.LowNibbleKept t ∧
        s.Frame t [.a, .h, .l] [] [])

/-- LD rr,d16 and LD SP,HL put the word in the pair or SP, advance pc and change nothing else.
Stated: R143, R144. -/
def Obligations.LoadPair : Prop :=
  (∀ (s : State) (rr : Reg16) (d16 : Word), ∃ t : State,
    exec (Instr.ldPairImm rr d16) s = .next t ∧ t.getR16 rr = d16 ∧ t.pc = s.pc + 3 ∧
    (rr ≠ .sp → t.sp = s.sp) ∧ s.LowNibbleKept t ∧ s.Frame t (pairRegs rr) [] []) ∧
  (∀ s : State, ∃ t : State, exec .ldSpHl s = .next t ∧ t.sp = pair s.h s.l ∧ t.pc = s.pc + 1 ∧
    s.LowNibbleKept t ∧ s.Frame t [] [] [])

/-- LD HL,SP+e8 and ADD SP,e8: the 16-bit sum, Z and N 0, H and C from bits 11 and 15. Derived:
41_load16.md, 43_alu16.md, 92_eei_decisions.md D10. -/
def Obligations.StackPointerPlusDisplacement : Prop :=
  ∀ (s : State) (e8 : Byte) (off : Word),
    off.toNat = (if e8.toNat < 0x80 then e8.toNat else 0xFF00 + e8.toNat) →
    (∃ t : State, exec (.ldHlSpE8 e8) s = .next t ∧
      t.hl.toNat = (s.sp.toNat + off.toNat) % 65536 ∧ t.sp = s.sp ∧
      t.flag .z = false ∧ t.flag .n = false ∧
      (t.flag .h = true ↔ s.sp.toNat % 4096 + off.toNat % 4096 > 0x0FFF) ∧
      (t.flag .c = true ↔ s.sp.toNat + off.toNat > 0xFFFF) ∧
      t.pc = s.pc + 2 ∧ s.LowNibbleKept t ∧ s.Frame t [.h, .l] [.z, .n, .h, .c] []) ∧
    (∃ t : State, exec (.addSpE8 e8) s = .next t ∧
      t.sp.toNat = (s.sp.toNat + off.toNat) % 65536 ∧
      t.flag .z = false ∧ t.flag .n = false ∧
      (t.flag .h = true ↔ s.sp.toNat % 4096 + off.toNat % 4096 > 0x0FFF) ∧
      (t.flag .c = true ↔ s.sp.toNat + off.toNat > 0xFFFF) ∧
      t.pc = s.pc + 2 ∧ s.LowNibbleKept t ∧ s.Frame t [] [.z, .n, .h, .c] [])

/-- LD (a16),HL stores L at a16 and H at a16 + 1, modulo 65536. Derived: 41_load16.md,
90_conflicts.md C5, 92_eei_decisions.md D11. -/
def Obligations.StoreHlAbsolute : Prop :=
  ∀ (s : State) (a16 : Word), ∃ t : State, exec (.ldMA16Hl a16) s = .next t ∧
    (s.mem.wf = true → t.readByte a16 = s.l ∧ t.readByte (a16 + 1) = s.h) ∧
    t.pc = s.pc + 3 ∧ t.sp = s.sp ∧ s.LowNibbleKept t ∧ s.Frame t [] [] [a16, a16 + 1]

/-- PUSH rr stores the high byte at SP - 1 and the low byte at SP - 2; with SP = 0 it only faults.
Stated: R147. -/
def Obligations.PushStoresHighThenLow : Prop :=
  ∀ (s : State) (rr : RegStk),
    (s.sp ≠ 0 → ∃ t : State, exec (Instr.push rr) s = .next t ∧
      (s.mem.wf = true → t.readByte (s.sp - 1) = stkHigh s rr ∧
        t.readByte (s.sp - 2) = stkLow s rr) ∧
      t.sp = s.sp - 2 ∧ t.pc = s.pc + 1 ∧ s.LowNibbleKept t ∧
        s.Frame t [] [] [s.sp - 1, s.sp - 2]) ∧
    (s.sp = 0 → exec (Instr.push rr) s = .next { s with fault := some .stackFault })

/-- POP BC, POP DE and POP HL load the pair from the two bytes at SP and raise SP by 2. Stated:
R148. -/
def Obligations.PopLoadsLowThenHigh : Prop :=
  ∀ (s : State) (rr : RegStk), rr ≠ .af → ∃ t : State, exec (Instr.pop rr) s = .next t ∧
    stkLow t rr = s.readByte s.sp ∧ stkHigh t rr = s.readByte (s.sp + 1) ∧
    t.sp = s.sp + 2 ∧ t.pc = s.pc + 1 ∧ s.LowNibbleKept t ∧ s.Frame t (stkRegs rr) [] []

/-- POP AF loads A and F from the stack, with the low nibble of F forced to 0. Derived:
41_load16.md, 92_eei_decisions.md D29. -/
def Obligations.PopAfMasksF : Prop :=
  ∀ s : State, ∃ t : State, exec .popAf s = .next t ∧ t.a = s.readByte (s.sp + 1) ∧
    t.f = s.readByte s.sp &&& 0xF0 ∧ t.sp = s.sp + 2 ∧ t.pc = s.pc + 1 ∧
    s.Frame t [.a] [.z, .n, .h, .c] []

/-- PUSH rr followed by POP rr restores rr and SP, AF included where F's low nibble is zero.
Derived: 41_load16.md, 90_conflicts.md C12. -/
def Obligations.PushThenPopRestores : Prop :=
  ∀ (s : State) (rr : RegStk), s.inv = true → s.sp ≠ 0 → ∃ t u : State,
    exec (Instr.push rr) s = .next t ∧ exec (Instr.pop rr) t = .next u ∧
    s.RegsKept u [] ∧ u.f = s.f ∧ u.sp = s.sp ∧ u.pc = s.pc + 2 ∧ s.ControlKept u ∧
    s.MemoryKept u [s.sp - 1, s.sp - 2]

/-- ADD A,r, ADD A,(HL), ADD A,d8: sum, Z of the sum, N 0, H carry out of bit 3, C carry out of
bit 7. Stated: R165, R166, R167. -/
def Obligations.AddSetsResultAndFlags : Prop :=
  ∀ (i : Instr) (s : State) (v : Byte) (len : Word), AluForm .add i s v len →
    ∃ t : State, exec i s = .next t ∧
      t.a.toNat = (s.a.toNat + v.toNat) % 256 ∧
      (t.flag .z = true ↔ (s.a.toNat + v.toNat) % 256 = 0) ∧ t.flag .n = false ∧
      (t.flag .h = true ↔ s.a.toNat % 16 + v.toNat % 16 > 0x0F) ∧
      (t.flag .c = true ↔ s.a.toNat + v.toNat > 0xFF) ∧
      t.f &&& 0x0F = 0 ∧ t.pc = s.pc + len ∧ t.sp = s.sp ∧ s.Frame t [.a] [.z, .n, .h, .c] []

/-- ADC: the carry takes part in the sum, in the half-carry and in the carry. Derived: 42_alu8.md
section 3, 92_eei_decisions.md D8. -/
def Obligations.AdcSetsResultAndFlags : Prop :=
  ∀ (i : Instr) (s : State) (v : Byte) (len : Word), AluForm .adc i s v len →
    ∃ t : State, exec i s = .next t ∧
      t.a.toNat = (s.a.toNat + v.toNat + (s.flag .c).toNat) % 256 ∧
      (t.flag .z = true ↔ t.a.toNat = 0) ∧ t.flag .n = false ∧
      (t.flag .h = true ↔ s.a.toNat % 16 + v.toNat % 16 + (s.flag .c).toNat > 0x0F) ∧
      (t.flag .c = true ↔ s.a.toNat + v.toNat + (s.flag .c).toNat > 0xFF) ∧
      t.f &&& 0x0F = 0 ∧ t.pc = s.pc + len ∧ t.sp = s.sp ∧ s.Frame t [.a] [.z, .n, .h, .c] []

/-- SUB, SBC, CP: difference, N 1, H and C the borrows; CP stores nothing to A. Derived:
42_alu8.md section 1, 42_alu8.md section 9, 90_conflicts.md C1, 92_eei_decisions.md D7, D8. -/
def Obligations.SubSbcCpSetResultAndBorrows : Prop :=
  ∀ (op : AluOp) (i : Instr) (s : State) (v : Byte) (len : Word) (cin : Nat) (res : Byte),
    op = .sub ∨ op = .sbc ∨ op = .cp → AluForm op i s v len →
    cin = (if op = .sbc then (s.flag .c).toNat else 0) →
    (res.toNat : Int) = ((s.a.toNat : Int) - v.toNat - cin) % 256 →
    ∃ t : State, exec i s = .next t ∧ t.a = (if op = .cp then s.a else res) ∧
      (t.flag .z = true ↔ res = 0) ∧ t.flag .n = true ∧
      (t.flag .h = true ↔ s.a.toNat % 16 < v.toNat % 16 + cin) ∧
      (t.flag .c = true ↔ s.a.toNat < v.toNat + cin) ∧
      t.f &&& 0x0F = 0 ∧ t.pc = s.pc + len ∧ t.sp = s.sp ∧ s.Frame t [.a] [.z, .n, .h, .c] []

/-- AND, OR, XOR: the bitwise result in A, Z of it, N 0, H 1 for AND and 0 for OR and XOR, C 0.
Stated: R163, R177, R178, R179, R180, R181, R182, R183, R184, R185. -/
def Obligations.LogicSetsResultAndFlags : Prop :=
  ∀ (op : AluOp) (i : Instr) (s : State) (v : Byte) (len : Word),
    op = .and ∨ op = .or ∨ op = .xor → AluForm op i s v len →
    ∃ t : State, exec i s = .next t ∧
      (∀ k < 8, t.a.getLsbD k =
        (if op = .and then s.a.getLsbD k && v.getLsbD k
          else if op = .or then s.a.getLsbD k || v.getLsbD k
          else s.a.getLsbD k ^^ v.getLsbD k)) ∧
      (t.flag .z = true ↔ t.a = 0) ∧ t.flag .n = false ∧ t.flag .h = decide (op = .and) ∧
      t.flag .c = false ∧ s.LowNibbleKept t ∧ t.pc = s.pc + len ∧ t.sp = s.sp ∧
      s.Frame t [.a] [.z, .n, .h, .c] []

/-- INC r, INC (HL), DEC r, DEC (HL): one up or down modulo 256, Z, N and H written, C kept.
Derived: 42_alu8.md section 10, 90_conflicts.md C3, 92_eei_decisions.md D9. -/
def Obligations.IncDecByte : Prop :=
  ∀ (s : State) (o : Operand8),
    (∃ t : State, exec (Instr.incOp o) s = .next t ∧
      ((o = .memHl → s.mem.wf = true) →
        (t.getOperand o).toNat = ((s.getOperand o).toNat + 1) % 256) ∧
      (t.flag .z = true ↔ ((s.getOperand o).toNat + 1) % 256 = 0) ∧ t.flag .n = false ∧
      (t.flag .h = true ↔ (s.getOperand o).toNat % 16 = 15) ∧
      t.pc = s.pc + 1 ∧ t.sp = s.sp ∧ s.LowNibbleKept t ∧
        s.Frame t (destRegs o) [.z, .n, .h] (destAddrs s o)) ∧
    (∃ t : State, exec (Instr.decOp o) s = .next t ∧
      ((o = .memHl → s.mem.wf = true) →
        (t.getOperand o).toNat = ((s.getOperand o).toNat + 255) % 256) ∧
      (t.flag .z = true ↔ (s.getOperand o).toNat = 1) ∧ t.flag .n = true ∧
      (t.flag .h = true ↔ (s.getOperand o).toNat % 16 = 0) ∧
      t.pc = s.pc + 1 ∧ t.sp = s.sp ∧ s.LowNibbleKept t ∧
        s.Frame t (destRegs o) [.z, .n, .h] (destAddrs s o))

/-- ADD HL,rr: the 16-bit sum, N 0, H and C the carries out of bits 11 and 15, Z untouched.
Stated: R201. -/
def Obligations.AddHlPair : Prop :=
  ∀ (s : State) (rr : Reg16), ∃ t : State, exec (Instr.addHlPair rr) s = .next t ∧
    t.hl.toNat = (s.hl.toNat + (s.getR16 rr).toNat) % 65536 ∧ t.flag .n = false ∧
    (t.flag .h = true ↔ s.hl.toNat % 4096 + (s.getR16 rr).toNat % 4096 > 0x0FFF) ∧
    (t.flag .c = true ↔ s.hl.toNat + (s.getR16 rr).toNat > 0xFFFF) ∧
    t.pc = s.pc + 1 ∧ t.sp = s.sp ∧ s.LowNibbleKept t ∧ s.Frame t [.h, .l] [.n, .h, .c] []

/-- INC rr and DEC rr: one up or down modulo 65536, no flag changed. Stated: R203, R204. -/
def Obligations.IncDecPair : Prop :=
  ∀ (s : State) (rr : Reg16),
    (∃ t : State, exec (Instr.incPair rr) s = .next t ∧
      (t.getR16 rr).toNat = ((s.getR16 rr).toNat + 1) % 65536 ∧ (rr ≠ .sp → t.sp = s.sp) ∧
      t.pc = s.pc + 1 ∧ s.LowNibbleKept t ∧ s.Frame t (pairRegs rr) [] []) ∧
    (∃ t : State, exec (Instr.decPair rr) s = .next t ∧
      (t.getR16 rr).toNat = ((s.getR16 rr).toNat + 65535) % 65536 ∧ (rr ≠ .sp → t.sp = s.sp) ∧
      t.pc = s.pc + 1 ∧ s.LowNibbleKept t ∧ s.Frame t (pairRegs rr) [] [])

/-- The rotates, shifts and SWAP, bit by bit: result, Z of it, N and H 0, C the bit shifted out.
Derived: 44_rotate_shift.md, 90_conflicts.md C7, 92_eei_decisions.md D12. -/
def Obligations.RotatesShiftsAndSwap : Prop :=
  ∀ (op : ShiftOp) (o : Operand8) (i : Instr) (len : Word) (s : State), ShiftForm op o i len →
    ∃ t : State, exec i s = .next t ∧
      ((o = .memHl → s.mem.wf = true) → ∀ k < 8, (t.getOperand o).getLsbD k =
        shiftedBit op (s.getOperand o) (s.flag .c) k) ∧
      (t.flag .z = true ↔ ∀ k < 8, shiftedBit op (s.getOperand o) (s.flag .c) k = false) ∧
      t.flag .n = false ∧ t.flag .h = false ∧
      t.flag .c = shiftedOut op (s.getOperand o) ∧ t.pc = s.pc + len ∧
      t.sp = s.sp ∧ s.LowNibbleKept t ∧ s.Frame t (destRegs o) [.z, .n, .h, .c] (destAddrs s o)

/-- BIT b: Z the complement of the bit, N 0, H 1, C and the operand unchanged. Stated: R251, R252.
-/
def Obligations.BitTestsOneBit : Prop :=
  ∀ (s : State) (b : Fin 8) (o : Operand8), ∃ t : State, exec (Instr.bit b o) s = .next t ∧
    (t.flag .z = true ↔ (s.getOperand o).getLsbD b = false) ∧ t.flag .n = false ∧
    t.flag .h = true ∧ t.pc = s.pc + 2 ∧ t.sp = s.sp ∧ s.LowNibbleKept t ∧
      s.Frame t [] [.z, .n, .h] []

/-- SET b and RES b write one bit of the operand and no flag. Stated: R253, R254, R255, R256. -/
def Obligations.SetAndResOneBit : Prop :=
  ∀ (s : State) (b : Fin 8) (o : Operand8) (v : Bool), ∃ t : State,
    exec (if v then Instr.set b o else Instr.res b o) s = .next t ∧
    ((o = .memHl → s.mem.wf = true) → ∀ k < 8, (t.getOperand o).getLsbD k =
      (if k = b.val then v else (s.getOperand o).getLsbD k)) ∧
    t.pc = s.pc + 2 ∧ t.sp = s.sp ∧ s.LowNibbleKept t ∧ s.Frame t (destRegs o) [] (destAddrs s o)

/-- JP a16 and JP cc,a16: pc is a16, or pc + 3 where the condition is false; nothing else changes.
Stated: R266, R267. -/
def Obligations.AbsoluteJumps : Prop :=
  ∀ (s : State) (a16 : Word),
    exec (.jpA16 a16) s = .next { s with pc := a16 } ∧
    exec (.jpNzA16 a16) s = .next { s with pc := if s.flag .z = false then a16 else s.pc + 3 } ∧
    exec (.jpZA16 a16) s = .next { s with pc := if s.flag .z = true then a16 else s.pc + 3 } ∧
    exec (.jpNcA16 a16) s = .next { s with pc := if s.flag .c = false then a16 else s.pc + 3 } ∧
    exec (.jpCA16 a16) s = .next { s with pc := if s.flag .c = true then a16 else s.pc + 3 }

/-- JP (HL) takes HL itself; JR e8 and JR cc,e8 count from the following instruction, signed.
Derived: 46_control.md section 1, 92_eei_decisions.md D15. -/
def Obligations.RelativeAndHlJumps : Prop :=
  ∀ (s : State) (e8 : Byte) (target : Word),
    (target.toNat : Int) = ((s.pc.toNat : Int) + 2 +
      (if e8.toNat < 0x80 then (e8.toNat : Int) else (e8.toNat : Int) - 256)) % 65536 →
    exec .jpHl s = .next { s with pc := pair s.h s.l } ∧
    exec (.jrE8 e8) s = .next { s with pc := target } ∧
    exec (.jrNzE8 e8) s = .next { s with pc := if s.flag .z = false then target else s.pc + 2 } ∧
    exec (.jrZE8 e8) s = .next { s with pc := if s.flag .z = true then target else s.pc + 2 } ∧
    exec (.jrNcE8 e8) s = .next { s with pc := if s.flag .c = false then target else s.pc + 2 } ∧
    exec (.jrCE8 e8) s = .next { s with pc := if s.flag .c = true then target else s.pc + 2 }

/-- CALL a16 and taken CALL cc push the address after them and jump; untaken CALL cc only
advances. Stated: R271, R272. -/
def Obligations.Calls : Prop :=
  ∀ (s : State) (a16 : Word) (i : Instr),
    (i = .callA16 a16 ∨ (i = .callNzA16 a16 ∧ s.flag .z = false) ∨
      (i = .callZA16 a16 ∧ s.flag .z = true) ∨ (i = .callNcA16 a16 ∧ s.flag .c = false) ∨
      (i = .callCA16 a16 ∧ s.flag .c = true) →
      (s.sp ≠ 0 → ∃ t : State, exec i s = .next t ∧ t.pc = a16 ∧ t.sp = s.sp - 2 ∧
        (s.mem.wf = true → (t.readByte (s.sp - 1)).toNat = (s.pc + 3).toNat / 256 ∧
          (t.readByte (s.sp - 2)).toNat = (s.pc + 3).toNat % 256) ∧
        s.LowNibbleKept t ∧ s.Frame t [] [] [s.sp - 1, s.sp - 2]) ∧
      (s.sp = 0 → exec i s = .next { s with fault := some .stackFault })) ∧
    ((i = .callNzA16 a16 ∧ s.flag .z = true) ∨ (i = .callZA16 a16 ∧ s.flag .z = false) ∨
      (i = .callNcA16 a16 ∧ s.flag .c = true) ∨ (i = .callCA16 a16 ∧ s.flag .c = false) →
      exec i s = .next { s with pc := s.pc + 3 })

/-- RST n pushes the address after it and jumps to n = 8y; with SP = 0 it only faults. Derived:
46_control.md section 2, 92_eei_decisions.md D16. -/
def Obligations.Restarts : Prop :=
  ∀ (s : State) (y : Fin 8),
      (s.sp ≠ 0 → ∃ t : State, exec (Instr.rst y) s = .next t ∧
        t.pc = BitVec.ofNat 16 (8 * y.val) ∧ t.sp = s.sp - 2 ∧
        (s.mem.wf = true → (t.readByte (s.sp - 1)).toNat = (s.pc + 1).toNat / 256 ∧
          (t.readByte (s.sp - 2)).toNat = (s.pc + 1).toNat % 256) ∧
        s.LowNibbleKept t ∧ s.Frame t [] [] [s.sp - 1, s.sp - 2]) ∧
      (s.sp = 0 → exec (Instr.rst y) s = .next { s with fault := some .stackFault })

/-- RET, RET cc and RETI pop pc; RETI sets IME; untaken RET cc only advances. Stated: R274, R275,
R276. -/
def Obligations.Returns : Prop :=
  ∀ (s : State) (i : Instr) (target : Word),
    target.toNat = 256 * (s.readByte (s.sp + 1)).toNat + (s.readByte s.sp).toNat →
    (i = .ret ∨ (i = .retNz ∧ s.flag .z = false) ∨ (i = .retZ ∧ s.flag .z = true) ∨
      (i = .retNc ∧ s.flag .c = false) ∨ (i = .retC ∧ s.flag .c = true) →
      exec i s = .next { s with pc := target, sp := s.sp + 2 }) ∧
    exec .reti s = .next { s with pc := target, sp := s.sp + 2, ime := true } ∧
    ((i = .retNz ∧ s.flag .z = true) ∨ (i = .retZ ∧ s.flag .z = false) ∨
      (i = .retNc ∧ s.flag .c = true) ∨ (i = .retC ∧ s.flag .c = false) →
      exec i s = .next { s with pc := s.pc + 1 }) ∧
    (∀ (cfg : Config) (t : State), exec .reti s = .next t → cfg.irqDispatch = true →
      s.fault = none → t.pendingInterrupts ≠ 0 →
      t.takesInterrupt cfg = true ∧ stepWith cfg t = .next t.interruptEntry)

/-- HALT sets HALTED, DI clears IME; each advances pc by 1 and changes nothing else. Stated: R296,
R298. -/
def Obligations.HaltAndDi : Prop :=
  ∀ s : State,
    exec .halt s = .next { s with halted := true, pc := s.pc + 1 } ∧
    exec .di s = .next { s with ime := false, pc := s.pc + 1 } ∧
    (∀ (cfg : Config) (t : State), exec .di s = .next t → t.takesInterrupt cfg = false)

/-- NOP advances pc by 1; STOP sets HALTED and advances by 2; EI sets IME at once. Derived:
47_misc.md, 92_eei_decisions.md D3, D18, D21. -/
def Obligations.NopStopEi : Prop :=
  ∀ s : State,
    exec .nop s = .next { s with pc := s.pc + 1 } ∧
    exec .stop s = .next { s with halted := true, pc := s.pc + 2 } ∧
    (∀ cfg : Config, execWith cfg .stop s =
      .next { s with halted := true, pc := s.pc + BitVec.ofNat 16 cfg.stopLen }) ∧
    exec .ei s = .next { s with ime := true, pc := s.pc + 1 }

/-- CPL complements A and sets N and H; CCF and SCF complement and set C and clear N and H.
Derived: 47_misc.md, 92_eei_decisions.md D14. -/
def Obligations.CplCcfScf : Prop :=
  ∀ s : State,
    (∃ t : State, exec .cpl s = .next t ∧ t.a.toNat = 255 - s.a.toNat ∧ t.flag .n = true ∧
      t.flag .h = true ∧ t.pc = s.pc + 1 ∧ t.sp = s.sp ∧ s.LowNibbleKept t ∧
        s.Frame t [.a] [.n, .h] []) ∧
    (∃ t : State, exec .ccf s = .next t ∧ t.flag .c = !s.flag .c ∧ t.flag .n = false ∧
      t.flag .h = false ∧ t.pc = s.pc + 1 ∧ t.sp = s.sp ∧ s.LowNibbleKept t ∧
        s.Frame t [] [.n, .h, .c] []) ∧
    (∃ t : State, exec .scf s = .next t ∧ t.flag .c = true ∧ t.flag .n = false ∧
      t.flag .h = false ∧ t.pc = s.pc + 1 ∧ t.sp = s.sp ∧ s.LowNibbleKept t ∧
        s.Frame t [] [.n, .h, .c] [])

/-- DAA: the 0x06 and 0x60 corrections, their direction by N, and the flags. Derived: 47_misc.md,
92_eei_decisions.md D13. -/
def Obligations.DecimalAdjust : Prop :=
  ∀ (s : State) (low high : Bool) (adj : Nat),
    low = (s.flag .h || (!s.flag .n && decide (s.a.toNat % 16 > 9))) →
    high = (s.flag .c || (!s.flag .n && decide (s.a.toNat > 0x99))) →
    adj = (if low then 0x06 else 0) + (if high then 0x60 else 0) →
    ∃ t : State, exec .daa s = .next t ∧
      t.a.toNat = (if s.flag .n = true then s.a.toNat + 256 - adj else s.a.toNat + adj) % 256 ∧
      (t.flag .z = true ↔ t.a = 0) ∧ t.flag .h = false ∧ t.flag .c = high ∧
      t.pc = s.pc + 1 ∧ t.sp = s.sp ∧ s.LowNibbleKept t ∧ s.Frame t [.a] [.z, .h, .c] []

/-- DAA after ADC or SBC of two-digit decimals gives the decimal sum or difference and its carry.
Derived: 47_misc.md, 00_scope.md section 6, 92_eei_decisions.md D13. -/
def Obligations.DecimalArithmeticIsRight : Prop :=
  ∀ (s : State) (x y : Nat), x < 100 → y < 100 → s.a = bcd x →
    (∃ t u : State, exec (Instr.aluImm .adc (bcd y)) s = .next t ∧ exec .daa t = .next u ∧
      u.a = bcd ((x + y + (s.flag .c).toNat) % 100) ∧
      (u.flag .c = true ↔ x + y + (s.flag .c).toNat ≥ 100)) ∧
    (∃ t u : State, exec (Instr.aluImm .sbc (bcd y)) s = .next t ∧ exec .daa t = .next u ∧
      u.a = bcd ((x + 200 - y - (s.flag .c).toNat) % 100) ∧
      (u.flag .c = true ↔ x < y + (s.flag .c).toNat))

/-- PREFIX CB executes the CB-table instruction its second byte selects, and advances pc by 2.
Stated: R300. -/
def Obligations.PrefixRunsTheCbInstruction : Prop :=
  ∀ s : State, ∃ (i : Instr) (t : State),
    decodeBytes 0xCB (s.readByte (s.pc + 1)) (s.readByte (s.pc + 2)) = .ok i ∧
    exec .prefixCb s = exec i s ∧ exec .prefixCb s = .next t ∧ t.pc = s.pc + 2 ∧
    t.fault = s.fault ∧ (∀ b : Bool, defaultCycles i b ∈ [8, 12, 16])
end

