-- ==== Sys2Proof/Laws/Bits.lean ====
section
/-! SUPPORT. The laws of high byte, low byte and pair (R8, R22), and of the bit masks. -/
namespace Sys2Proof.Machine

/-- `{h, l}` is `h * 256 + l` (R8). -/
theorem toNat_pair (h l : Byte) : (pair h l).toNat = h.toNat * 256 + l.toNat := by
  have e : (pair h l).toNat = h.toNat <<< 8 ||| l.toNat := BitVec.toNat_append h l
  rw [e, ← Nat.shiftLeft_add_eq_or_of_lt l.isLt, Nat.shiftLeft_eq]

theorem toNat_hi (w : Word) : (hi w).toNat = w.toNat / 256 := by
  have := w.isLt
  simp only [hi, BitVec.extractLsb'_toNat, Nat.shiftRight_eq_div_pow]
  omega

theorem toNat_lo (w : Word) : (lo w).toNat = w.toNat % 256 := by
  simp [lo, BitVec.extractLsb'_toNat]

@[simp] theorem hi_pair (h l : Byte) : hi (pair h l) = h := by
  have := l.isLt
  apply BitVec.eq_of_toNat_eq
  rw [toNat_hi, toNat_pair]
  omega

@[simp] theorem lo_pair (h l : Byte) : lo (pair h l) = l := by
  have := l.isLt
  apply BitVec.eq_of_toNat_eq
  rw [toNat_lo, toNat_pair]
  omega

@[simp] theorem pair_hi_lo (w : Word) : pair (hi w) (lo w) = w := by
  apply BitVec.eq_of_toNat_eq
  rw [toNat_pair, toNat_hi, toNat_lo]
  omega

/-- Two words with the same halves are equal. -/
theorem word_ext {v w : Word} (hhi : hi v = hi w) (hlo : lo v = lo w) : v = w := by
  rw [← pair_hi_lo v, ← pair_hi_lo w, hhi, hlo]

/-- Bit `i` of `1 << b`. -/
theorem getLsbD_bitMask (b : Fin 8) (i : Fin 8) :
    (bitMask b).getLsbD i.val = decide (i = b) := by
  revert b i; decide

end Sys2Proof.Machine
end

