-- ==== Sys2Proof/Laws/Families.lean ====
section
/-! SUPPORT. What `exec` answers for each family of constructors, in terms of the shared operation the
family's meanings are made of: the case analysis over a family, done once. -/
namespace Sys2Proof.Machine

theorem exec_ldRegReg (dst r : Reg8) (s : State) :
    exec (Instr.ldRegReg dst r) s = .next (loadReg dst (s.getR8 r) 1 s) := by
  cases dst <;> cases r <;> rfl

theorem exec_ldRegImm (dst : Reg8) (v : Byte) (s : State) :
    exec (Instr.ldRegImm dst v) s = .next (loadReg dst v 2 s) := by cases dst <;> rfl

theorem exec_ldRegMem (dst : Reg8) (s : State) :
    exec (Instr.ldRegMem dst) s = .next (loadReg dst (s.readByte s.hl) 1 s) := by cases dst <;> rfl

theorem exec_ldMemReg (r : Reg8) (s : State) :
    exec (Instr.ldMemReg r) s = .next (storeByte s.hl (s.getR8 r) 1 s) := by cases r <;> rfl

theorem exec_ldPairImm (r : Reg16) (v : Word) (s : State) :
    exec (Instr.ldPairImm r v) s = .next (loadPair r v 3 s) := by cases r <;> rfl

theorem exec_push (r : RegStk) (s : State) :
    exec (Instr.push r) s = .next (pushPair r s) := by cases r <;> rfl

theorem exec_pop (r : RegStk) (s : State) :
    exec (Instr.pop r) s = .next (popPair r s) := by cases r <;> rfl

theorem exec_alu (op : AluOp) (o : Operand8) (s : State) :
    exec (Instr.alu op o) s = .next (aluApply op (s.getOperand o) 1 s) := by
  cases op <;> rcases o with (r | _) <;> first | rfl | (cases r <;> rfl)

theorem exec_aluImm (op : AluOp) (v : Byte) (s : State) :
    exec (Instr.aluImm op v) s = .next (aluApply op v 2 s) := by cases op <;> rfl

theorem exec_incOp (o : Operand8) (s : State) :
    exec (Instr.incOp o) s = .next (incOperand o s) := by
  rcases o with (r | _) <;> first | rfl | (cases r <;> rfl)

theorem exec_decOp (o : Operand8) (s : State) :
    exec (Instr.decOp o) s = .next (decOperand o s) := by
  rcases o with (r | _) <;> first | rfl | (cases r <;> rfl)

theorem exec_addHlPair (r : Reg16) (s : State) :
    exec (Instr.addHlPair r) s = .next (addHl r s) := by cases r <;> rfl

theorem exec_incPair (r : Reg16) (s : State) :
    exec (Instr.incPair r) s = .next (incPair r s) := by cases r <;> rfl

theorem exec_decPair (r : Reg16) (s : State) :
    exec (Instr.decPair r) s = .next (decPair r s) := by cases r <;> rfl

theorem exec_shift (op : ShiftOp) (o : Operand8) (s : State) :
    exec (Instr.shift op o) s = .next (shiftOperand op o 2 s) := by
  cases op <;> rcases o with (r | _) <;> first | rfl | (cases r <;> rfl)

theorem exec_bit (b : Fin 8) (o : Operand8) (s : State) :
    exec (Instr.bit b o) s = .next (testBit b o s) := by
  fin_cases b <;> rcases o with (r | _) <;> first | rfl | (cases r <;> rfl)

theorem exec_res (b : Fin 8) (o : Operand8) (s : State) :
    exec (Instr.res b o) s = .next (resetBit b o s) := by
  fin_cases b <;> rcases o with (r | _) <;> first | rfl | (cases r <;> rfl)

theorem exec_set (b : Fin 8) (o : Operand8) (s : State) :
    exec (Instr.set b o) s = .next (setBit b o s) := by
  fin_cases b <;> rcases o with (r | _) <;> first | rfl | (cases r <;> rfl)

theorem exec_jpIf (cc : Cond) (a : Word) (s : State) :
    exec (Instr.jpIf cc a) s = .next (ifCond cc 3 (fun t => t.jump a) s) := by cases cc <;> rfl

theorem exec_jrIf (cc : Cond) (e : Byte) (s : State) :
    exec (Instr.jrIf cc e) s = .next (ifCond cc 2 (jumpRelative e) s) := by cases cc <;> rfl

theorem exec_callIf (cc : Cond) (a : Word) (s : State) :
    exec (Instr.callIf cc a) s = .next (ifCond cc 3 (call a 3) s) := by cases cc <;> rfl

theorem exec_retIf (cc : Cond) (s : State) :
    exec (Instr.retIf cc) s = .next (ifCond cc 1 State.returnToCaller s) := by cases cc <;> rfl

theorem exec_rst (y : Fin 8) (s : State) :
    exec (Instr.rst y) s = .next (call (rstTarget y) 1 s) := by fin_cases y <;> rfl

end Sys2Proof.Machine
end

