-- ==== Sys2Proof/Laws/Flags.lean ====
section
/-! SUPPORT. The laws of the flags of F (R21, R27). -/
namespace Sys2Proof.Machine

/-- Reading a flag just written. -/
@[simp] theorem getFlag_putFlag_same (f : Byte) (fl : Flag) (v : Bool) :
    getFlag (putFlag f fl v) fl = v := by
  revert f; cases fl <;> cases v <;> decide +kernel

/-- Writing a flag leaves the others (R21). -/
theorem getFlag_putFlag_ne (f : Byte) {fl fl' : Flag} (h : fl' ≠ fl) (v : Bool) :
    getFlag (putFlag f fl v) fl' = getFlag f fl' := by
  revert f
  cases fl <;> cases fl' <;> cases v <;> first | exact absurd rfl h | decide +kernel

/-- Writing a flag leaves the low nibble (R21). -/
@[simp] theorem low_putFlag (f : Byte) (fl : Flag) (v : Bool) :
    putFlag f fl v &&& 15#8 = f &&& 15#8 := by
  revert f; cases fl <;> cases v <;> decide +kernel

/-- The flags of F written whole. -/
theorem getFlag_packFlags (z n h c : Bool) (fl : Flag) :
    getFlag (packFlags z n h c) fl =
      match fl with | .z => z | .n => n | .h => h | .c => c := by
  revert z n h c; cases fl <;> decide

/-- The low nibble of F written whole is zero. -/
@[simp] theorem low_packFlags (z n h c : Bool) : packFlags z n h c &&& 15#8 = 0#8 := by
  revert z n h c; decide


/-- F is its four flags and its low nibble (R27). -/
theorem eq_packFlags_or (f : Byte) :
    f = packFlags (getFlag f .z) (getFlag f .n) (getFlag f .h) (getFlag f .c) ||| (f &&& 0x0F) := by
  revert f; decide +kernel

/-- Two values of F with the same flags and the same low nibble are one. -/
theorem eq_of_flags {f g : Byte} (h : ∀ fl, getFlag f fl = getFlag g fl)
    (hl : f &&& 0x0F = g &&& 0x0F) : f = g := by
  rw [eq_packFlags_or f, eq_packFlags_or g, h .z, h .n, h .h, h .c, hl]

end Sys2Proof.Machine
end

