-- ==== Sys2Proof/Laws/Memory.lean ====
section
/-! SUPPORT. The laws of memory: what a read gives after a write, and that every operation keeps
the canonical form. -/
namespace Sys2Proof.Machine

/-- The canonical form at one listed byte. -/
theorem Memory.wfFrom_cons (low k : Nat) (v : Byte) (rest : Memory) :
    Memory.wfFrom low ((k, v) :: rest) = true ↔
      low ≤ k ∧ k < 65536 ∧ v ≠ Config.unlistedByte ∧ Memory.wfFrom (k + 1) rest = true := by
  simp [Memory.wfFrom, and_assoc]

/-- A bound on the keys may be lowered. -/
theorem Memory.wfFrom_mono {low low' : Nat} (h : low' ≤ low) :
    ∀ m : Memory, m.wfFrom low = true → m.wfFrom low' = true
  | [], _ => rfl
  | (k, v) :: rest, hm => by
    obtain ⟨h1, h2⟩ := (Memory.wfFrom_cons ..).1 hm
    exact (Memory.wfFrom_cons ..).2 ⟨h.trans h1, h2⟩

/-- An address below every key reads as an unlisted one. -/
theorem Memory.read_below {low : Nat} {a : Word} (ha : a.toNat < low) :
    ∀ m : Memory, m.wfFrom low = true → m.read a = Config.unlistedByte
  | [], _ => rfl
  | (k, v) :: rest, hm => by
    obtain ⟨h1, -, -, h4⟩ := (Memory.wfFrom_cons ..).1 hm
    have hne : k ≠ a.toNat := by omega
    simp only [Memory.read, hne, if_false]
    exact Memory.read_below (by omega) rest h4

/-- Reading another address is unchanged by a write, in any listing. -/
theorem Memory.read_put_ne {k : Nat} {a : Word} (h : k ≠ a.toNat) (v : Byte) :
    ∀ m : Memory, (m.put k v).read a = m.read a
  | [] => by
    simp only [Memory.put]
    split <;> simp [Memory.read, h]
  | (j, w) :: rest => by
    simp only [Memory.put]
    split
    · split <;> simp [Memory.read, h]
    · split
      · rename_i hkj
        split <;> simp [Memory.read, ← hkj, h]
      · simp only [Memory.read, Memory.read_put_ne h v rest]

/-- Reading the address just written gives the byte written. -/
theorem Memory.read_put_same {a : Word} (v : Byte) :
    ∀ (low : Nat) (m : Memory), m.wfFrom low = true → (m.put a.toNat v).read a = v
  | _, [], _ => by
    simp only [Memory.put]
    split <;> simp_all [Memory.read]
  | low, (j, w) :: rest, hm => by
    obtain ⟨-, -, -, h4⟩ := (Memory.wfFrom_cons ..).1 hm
    simp only [Memory.put]
    split
    · rename_i hlt
      split
      · rename_i hv
        have hne : j ≠ a.toNat := by omega
        simp only [Memory.read, hne, if_false, hv]
        exact Memory.read_below (by omega) rest h4
      · simp [Memory.read]
    · split
      · rename_i heq
        split
        · rename_i hv
          rw [hv]
          exact Memory.read_below (by omega) rest h4
        · simp [Memory.read]
      · rename_i hne
        have hne' : j ≠ a.toNat := fun h => hne h.symm
        simp only [Memory.read, hne', if_false]
        exact Memory.read_put_same v (j + 1) rest h4

/-- A write keeps the canonical form. -/
theorem Memory.wfFrom_put {k : Nat} (hk : k < 65536) (v : Byte) :
    ∀ (low : Nat) (m : Memory), low ≤ k → m.wfFrom low = true → (m.put k v).wfFrom low = true
  | low, [], hl, _ => by
    simp only [Memory.put]
    split
    · rfl
    · rename_i hv
      exact (Memory.wfFrom_cons ..).2 ⟨hl, hk, hv, rfl⟩
  | low, (j, w) :: rest, hl, hm => by
    obtain ⟨h1, h2, h3, h4⟩ := (Memory.wfFrom_cons ..).1 hm
    simp only [Memory.put]
    split
    · rename_i hlt
      split
      · exact hm
      · rename_i hv
        exact (Memory.wfFrom_cons ..).2
          ⟨hl, hk, hv, (Memory.wfFrom_cons ..).2 ⟨hlt, h2, h3, h4⟩⟩
    · split
      · rename_i heq
        split
        · exact Memory.wfFrom_mono (by omega) rest h4
        · rename_i hv
          exact (Memory.wfFrom_cons ..).2 ⟨hl, hk, hv, by rw [heq]; exact h4⟩
      · rename_i hne
        exact (Memory.wfFrom_cons ..).2
          ⟨h1, h2, h3, Memory.wfFrom_put hk v (j + 1) rest (by omega) h4⟩

/-- `Memory.write` keeps the canonical form. -/
theorem Memory.wf_write {m : Memory} (h : m.wf = true) (a : Word) (v : Byte) :
    (m.write a v).wf = true :=
  Memory.wfFrom_put a.isLt v 0 m (Nat.zero_le _) h

/-- What `Memory.write` does to a read. -/
theorem Memory.read_write {m : Memory} (h : m.wf = true) (a : Word) (v : Byte) (x : Word) :
    (m.write a v).read x = if x = a then v else m.read x := by
  split
  · rename_i hx; subst hx; exact Memory.read_put_same v 0 m h
  · rename_i hx
    exact Memory.read_put_ne (fun hk => hx (BitVec.eq_of_toNat_eq hk.symm)) v m

/-- A write leaves every other address alone, in any listing. -/
theorem Memory.read_write_ne (m : Memory) {a x : Word} (hx : x ≠ a) (v : Byte) :
    (m.write a v).read x = m.read x :=
  Memory.read_put_ne (fun hk => hx (BitVec.eq_of_toNat_eq hk.symm)) v m

/-- The empty listing is in the canonical form. -/
theorem Memory.wf_nil : Memory.wf [] = true := rfl

/-- Memory at reset is in the canonical form. -/
theorem State.reset_mem_wf : State.reset.mem.wf = true := rfl

/-- A byte read after a word write: the low byte at `x`, the high byte at the next address (R55). -/
theorem Memory.read_writeWord {m : Memory} (h : m.wf = true) (x v y : Word) :
    (m.writeWord x v).read y =
      if y = x + 1 then hi v else if y = x then lo v else m.read y := by
  rw [Memory.writeWord, Memory.read_write (Memory.wf_write h _ _), Memory.read_write h]

/-- A word write leaves every other byte. -/
theorem Memory.read_writeWord_ne (m : Memory) {x y : Word} (h : y ≠ x) (h' : y ≠ x + 1) (v : Word) :
    (m.writeWord x v).read y = m.read y := by
  rw [Memory.writeWord, Memory.read_write_ne _ h', Memory.read_write_ne _ h]

/-- A word read after a word write to the same address. -/
theorem Memory.readWord_writeWord {m : Memory} (h : m.wf = true) (x v : Word) :
    (m.writeWord x v).readWord x = v := by
  have hx : x ≠ x + 1 := by bv_omega
  simp only [Memory.readWord, Memory.read_writeWord h, if_true, hx, if_false, pair_hi_lo]

/-- A word write keeps the canonical form. -/
theorem Memory.wf_writeWord {m : Memory} (h : m.wf = true) (a v : Word) :
    (m.writeWord a v).wf = true :=
  Memory.wf_write (Memory.wf_write h _ _) _ _

end Sys2Proof.Machine
end

