-- ==== Sys2Proof/Laws/State.lean ====
section
/-! SUPPORT. One lemma for each field of State under each of the named updates, and what the views of
the state (registers by name, pairs, flags, bytes of memory) are after them, so that no later proof
unfolds a record update. -/
namespace Sys2Proof.Machine.State


/-! The update `setHl`. -/

@[simp] theorem setHl_a (s : State) (v : Word) : (s.setHl v).a = s.a := rfl
@[simp] theorem setHl_f (s : State) (v : Word) : (s.setHl v).f = s.f := rfl
@[simp] theorem setHl_b (s : State) (v : Word) : (s.setHl v).b = s.b := rfl
@[simp] theorem setHl_c (s : State) (v : Word) : (s.setHl v).c = s.c := rfl
@[simp] theorem setHl_d (s : State) (v : Word) : (s.setHl v).d = s.d := rfl
@[simp] theorem setHl_e (s : State) (v : Word) : (s.setHl v).e = s.e := rfl
@[simp] theorem setHl_h (s : State) (v : Word) : (s.setHl v).h = hi v := rfl
@[simp] theorem setHl_l (s : State) (v : Word) : (s.setHl v).l = lo v := rfl
@[simp] theorem setHl_pc (s : State) (v : Word) : (s.setHl v).pc = s.pc := rfl
@[simp] theorem setHl_sp (s : State) (v : Word) : (s.setHl v).sp = s.sp := rfl
@[simp] theorem setHl_ime (s : State) (v : Word) : (s.setHl v).ime = s.ime := rfl
@[simp] theorem setHl_halted (s : State) (v : Word) : (s.setHl v).halted = s.halted := rfl
@[simp] theorem setHl_fault (s : State) (v : Word) : (s.setHl v).fault = s.fault := rfl
@[simp] theorem setHl_mem (s : State) (v : Word) : (s.setHl v).mem = s.mem := rfl
@[simp] theorem bc_setHl (s : State) (v : Word) : (s.setHl v).bc = s.bc := rfl
@[simp] theorem de_setHl (s : State) (v : Word) : (s.setHl v).de = s.de := rfl
@[simp] theorem flag_setHl (s : State) (v : Word) (p : Flag) :
    (s.setHl v).flag p = s.flag p := rfl
@[simp] theorem readByte_setHl (s : State) (v : Word) (y : Word) :
    (s.setHl v).readByte y = s.readByte y := rfl

/-! The update `setFlag`. -/

@[simp] theorem setFlag_a (s : State) (fl : Flag) (x : Bool) : (s.setFlag fl x).a = s.a := rfl
@[simp] theorem setFlag_f (s : State) (fl : Flag) (x : Bool) :
    (s.setFlag fl x).f = putFlag s.f fl x := rfl
@[simp] theorem setFlag_b (s : State) (fl : Flag) (x : Bool) : (s.setFlag fl x).b = s.b := rfl
@[simp] theorem setFlag_c (s : State) (fl : Flag) (x : Bool) : (s.setFlag fl x).c = s.c := rfl
@[simp] theorem setFlag_d (s : State) (fl : Flag) (x : Bool) : (s.setFlag fl x).d = s.d := rfl
@[simp] theorem setFlag_e (s : State) (fl : Flag) (x : Bool) : (s.setFlag fl x).e = s.e := rfl
@[simp] theorem setFlag_h (s : State) (fl : Flag) (x : Bool) : (s.setFlag fl x).h = s.h := rfl
@[simp] theorem setFlag_l (s : State) (fl : Flag) (x : Bool) : (s.setFlag fl x).l = s.l := rfl
@[simp] theorem setFlag_pc (s : State) (fl : Flag) (x : Bool) : (s.setFlag fl x).pc = s.pc := rfl
@[simp] theorem setFlag_sp (s : State) (fl : Flag) (x : Bool) : (s.setFlag fl x).sp = s.sp := rfl
@[simp] theorem setFlag_ime (s : State) (fl : Flag) (x : Bool) :
    (s.setFlag fl x).ime = s.ime := rfl
@[simp] theorem setFlag_halted (s : State) (fl : Flag) (x : Bool) :
    (s.setFlag fl x).halted = s.halted := rfl
@[simp] theorem setFlag_fault (s : State) (fl : Flag) (x : Bool) :
    (s.setFlag fl x).fault = s.fault := rfl
@[simp] theorem setFlag_mem (s : State) (fl : Flag) (x : Bool) :
    (s.setFlag fl x).mem = s.mem := rfl
@[simp] theorem getR8_setFlag (s : State) (fl : Flag) (x : Bool) (q : Reg8) :
    (s.setFlag fl x).getR8 q = s.getR8 q := by cases q <;> rfl
@[simp] theorem bc_setFlag (s : State) (fl : Flag) (x : Bool) : (s.setFlag fl x).bc = s.bc := rfl
@[simp] theorem de_setFlag (s : State) (fl : Flag) (x : Bool) : (s.setFlag fl x).de = s.de := rfl
@[simp] theorem hl_setFlag (s : State) (fl : Flag) (x : Bool) : (s.setFlag fl x).hl = s.hl := rfl
@[simp] theorem readByte_setFlag (s : State) (fl : Flag) (x : Bool) (y : Word) :
    (s.setFlag fl x).readByte y = s.readByte y := rfl
@[simp] theorem getR16_setFlag (s : State) (fl : Flag) (x : Bool) (q : Reg16) :
    (s.setFlag fl x).getR16 q = s.getR16 q := by cases q <;> rfl

/-! The update `setFlags`. -/

@[simp] theorem setFlags_a (s : State) (z n hc cy : Bool) : (s.setFlags z n hc cy).a = s.a := rfl
@[simp] theorem setFlags_f (s : State) (z n hc cy : Bool) :
    (s.setFlags z n hc cy).f = putFlag (putFlag (putFlag (putFlag s.f .z z) .n n) .h hc) .c cy := rfl
@[simp] theorem setFlags_b (s : State) (z n hc cy : Bool) : (s.setFlags z n hc cy).b = s.b := rfl
@[simp] theorem setFlags_c (s : State) (z n hc cy : Bool) : (s.setFlags z n hc cy).c = s.c := rfl
@[simp] theorem setFlags_d (s : State) (z n hc cy : Bool) : (s.setFlags z n hc cy).d = s.d := rfl
@[simp] theorem setFlags_e (s : State) (z n hc cy : Bool) : (s.setFlags z n hc cy).e = s.e := rfl
@[simp] theorem setFlags_h (s : State) (z n hc cy : Bool) : (s.setFlags z n hc cy).h = s.h := rfl
@[simp] theorem setFlags_l (s : State) (z n hc cy : Bool) : (s.setFlags z n hc cy).l = s.l := rfl
@[simp] theorem setFlags_pc (s : State) (z n hc cy : Bool) :
    (s.setFlags z n hc cy).pc = s.pc := rfl
@[simp] theorem setFlags_sp (s : State) (z n hc cy : Bool) :
    (s.setFlags z n hc cy).sp = s.sp := rfl
@[simp] theorem setFlags_ime (s : State) (z n hc cy : Bool) :
    (s.setFlags z n hc cy).ime = s.ime := rfl
@[simp] theorem setFlags_halted (s : State) (z n hc cy : Bool) :
    (s.setFlags z n hc cy).halted = s.halted := rfl
@[simp] theorem setFlags_fault (s : State) (z n hc cy : Bool) :
    (s.setFlags z n hc cy).fault = s.fault := rfl
@[simp] theorem setFlags_mem (s : State) (z n hc cy : Bool) :
    (s.setFlags z n hc cy).mem = s.mem := rfl
@[simp] theorem getR8_setFlags (s : State) (z n hc cy : Bool) (q : Reg8) :
    (s.setFlags z n hc cy).getR8 q = s.getR8 q := by cases q <;> rfl
@[simp] theorem bc_setFlags (s : State) (z n hc cy : Bool) :
    (s.setFlags z n hc cy).bc = s.bc := rfl
@[simp] theorem de_setFlags (s : State) (z n hc cy : Bool) :
    (s.setFlags z n hc cy).de = s.de := rfl
@[simp] theorem hl_setFlags (s : State) (z n hc cy : Bool) :
    (s.setFlags z n hc cy).hl = s.hl := rfl
@[simp] theorem readByte_setFlags (s : State) (z n hc cy : Bool) (y : Word) :
    (s.setFlags z n hc cy).readByte y = s.readByte y := rfl
@[simp] theorem getR16_setFlags (s : State) (z n hc cy : Bool) (q : Reg16) :
    (s.setFlags z n hc cy).getR16 q = s.getR16 q := by cases q <;> rfl

/-! The update `setWholeF`. -/

@[simp] theorem setWholeF_a (s : State) (z n hc cy : Bool) :
    (s.setWholeF z n hc cy).a = s.a := rfl
@[simp] theorem setWholeF_f (s : State) (z n hc cy : Bool) :
    (s.setWholeF z n hc cy).f = packFlags z n hc cy := rfl
@[simp] theorem setWholeF_b (s : State) (z n hc cy : Bool) :
    (s.setWholeF z n hc cy).b = s.b := rfl
@[simp] theorem setWholeF_c (s : State) (z n hc cy : Bool) :
    (s.setWholeF z n hc cy).c = s.c := rfl
@[simp] theorem setWholeF_d (s : State) (z n hc cy : Bool) :
    (s.setWholeF z n hc cy).d = s.d := rfl
@[simp] theorem setWholeF_e (s : State) (z n hc cy : Bool) :
    (s.setWholeF z n hc cy).e = s.e := rfl
@[simp] theorem setWholeF_h (s : State) (z n hc cy : Bool) :
    (s.setWholeF z n hc cy).h = s.h := rfl
@[simp] theorem setWholeF_l (s : State) (z n hc cy : Bool) :
    (s.setWholeF z n hc cy).l = s.l := rfl
@[simp] theorem setWholeF_pc (s : State) (z n hc cy : Bool) :
    (s.setWholeF z n hc cy).pc = s.pc := rfl
@[simp] theorem setWholeF_sp (s : State) (z n hc cy : Bool) :
    (s.setWholeF z n hc cy).sp = s.sp := rfl
@[simp] theorem setWholeF_ime (s : State) (z n hc cy : Bool) :
    (s.setWholeF z n hc cy).ime = s.ime := rfl
@[simp] theorem setWholeF_halted (s : State) (z n hc cy : Bool) :
    (s.setWholeF z n hc cy).halted = s.halted := rfl
@[simp] theorem setWholeF_fault (s : State) (z n hc cy : Bool) :
    (s.setWholeF z n hc cy).fault = s.fault := rfl
@[simp] theorem setWholeF_mem (s : State) (z n hc cy : Bool) :
    (s.setWholeF z n hc cy).mem = s.mem := rfl
@[simp] theorem getR8_setWholeF (s : State) (z n hc cy : Bool) (q : Reg8) :
    (s.setWholeF z n hc cy).getR8 q = s.getR8 q := by cases q <;> rfl
@[simp] theorem bc_setWholeF (s : State) (z n hc cy : Bool) :
    (s.setWholeF z n hc cy).bc = s.bc := rfl
@[simp] theorem de_setWholeF (s : State) (z n hc cy : Bool) :
    (s.setWholeF z n hc cy).de = s.de := rfl
@[simp] theorem hl_setWholeF (s : State) (z n hc cy : Bool) :
    (s.setWholeF z n hc cy).hl = s.hl := rfl
@[simp] theorem readByte_setWholeF (s : State) (z n hc cy : Bool) (y : Word) :
    (s.setWholeF z n hc cy).readByte y = s.readByte y := rfl
@[simp] theorem getR16_setWholeF (s : State) (z n hc cy : Bool) (q : Reg16) :
    (s.setWholeF z n hc cy).getR16 q = s.getR16 q := by cases q <;> rfl

/-! The update `writeByte`. -/

@[simp] theorem writeByte_a (s : State) (x : Word) (v : Byte) : (s.writeByte x v).a = s.a := rfl
@[simp] theorem writeByte_f (s : State) (x : Word) (v : Byte) : (s.writeByte x v).f = s.f := rfl
@[simp] theorem writeByte_b (s : State) (x : Word) (v : Byte) : (s.writeByte x v).b = s.b := rfl
@[simp] theorem writeByte_c (s : State) (x : Word) (v : Byte) : (s.writeByte x v).c = s.c := rfl
@[simp] theorem writeByte_d (s : State) (x : Word) (v : Byte) : (s.writeByte x v).d = s.d := rfl
@[simp] theorem writeByte_e (s : State) (x : Word) (v : Byte) : (s.writeByte x v).e = s.e := rfl
@[simp] theorem writeByte_h (s : State) (x : Word) (v : Byte) : (s.writeByte x v).h = s.h := rfl
@[simp] theorem writeByte_l (s : State) (x : Word) (v : Byte) : (s.writeByte x v).l = s.l := rfl
@[simp] theorem writeByte_pc (s : State) (x : Word) (v : Byte) :
    (s.writeByte x v).pc = s.pc := rfl
@[simp] theorem writeByte_sp (s : State) (x : Word) (v : Byte) :
    (s.writeByte x v).sp = s.sp := rfl
@[simp] theorem writeByte_ime (s : State) (x : Word) (v : Byte) :
    (s.writeByte x v).ime = s.ime := rfl
@[simp] theorem writeByte_halted (s : State) (x : Word) (v : Byte) :
    (s.writeByte x v).halted = s.halted := rfl
@[simp] theorem writeByte_fault (s : State) (x : Word) (v : Byte) :
    (s.writeByte x v).fault = s.fault := rfl
@[simp] theorem writeByte_mem (s : State) (x : Word) (v : Byte) :
    (s.writeByte x v).mem = s.mem.write x v := rfl
@[simp] theorem getR8_writeByte (s : State) (x : Word) (v : Byte) (q : Reg8) :
    (s.writeByte x v).getR8 q = s.getR8 q := by cases q <;> rfl
@[simp] theorem bc_writeByte (s : State) (x : Word) (v : Byte) :
    (s.writeByte x v).bc = s.bc := rfl
@[simp] theorem de_writeByte (s : State) (x : Word) (v : Byte) :
    (s.writeByte x v).de = s.de := rfl
@[simp] theorem hl_writeByte (s : State) (x : Word) (v : Byte) :
    (s.writeByte x v).hl = s.hl := rfl
@[simp] theorem flag_writeByte (s : State) (x : Word) (v : Byte) (p : Flag) :
    (s.writeByte x v).flag p = s.flag p := rfl
@[simp] theorem getR16_writeByte (s : State) (x : Word) (v : Byte) (q : Reg16) :
    (s.writeByte x v).getR16 q = s.getR16 q := by cases q <;> rfl

/-! The update `writeWord`. -/

@[simp] theorem writeWord_a (s : State) (x v : Word) : (s.writeWord x v).a = s.a := rfl
@[simp] theorem writeWord_f (s : State) (x v : Word) : (s.writeWord x v).f = s.f := rfl
@[simp] theorem writeWord_b (s : State) (x v : Word) : (s.writeWord x v).b = s.b := rfl
@[simp] theorem writeWord_c (s : State) (x v : Word) : (s.writeWord x v).c = s.c := rfl
@[simp] theorem writeWord_d (s : State) (x v : Word) : (s.writeWord x v).d = s.d := rfl
@[simp] theorem writeWord_e (s : State) (x v : Word) : (s.writeWord x v).e = s.e := rfl
@[simp] theorem writeWord_h (s : State) (x v : Word) : (s.writeWord x v).h = s.h := rfl
@[simp] theorem writeWord_l (s : State) (x v : Word) : (s.writeWord x v).l = s.l := rfl
@[simp] theorem writeWord_pc (s : State) (x v : Word) : (s.writeWord x v).pc = s.pc := rfl
@[simp] theorem writeWord_sp (s : State) (x v : Word) : (s.writeWord x v).sp = s.sp := rfl
@[simp] theorem writeWord_ime (s : State) (x v : Word) : (s.writeWord x v).ime = s.ime := rfl
@[simp] theorem writeWord_halted (s : State) (x v : Word) : (s.writeWord x v).halted = s.halted := rfl
@[simp] theorem writeWord_fault (s : State) (x v : Word) : (s.writeWord x v).fault = s.fault := rfl
@[simp] theorem writeWord_mem (s : State) (x v : Word) :
    (s.writeWord x v).mem = s.mem.writeWord x v := rfl
@[simp] theorem getR8_writeWord (s : State) (x v : Word) (q : Reg8) :
    (s.writeWord x v).getR8 q = s.getR8 q := by cases q <;> rfl
@[simp] theorem flag_writeWord (s : State) (x v : Word) (p : Flag) :
    (s.writeWord x v).flag p = s.flag p := rfl

/-! The update `advance`. -/

@[simp] theorem advance_a (s : State) (len : Nat) : (s.advance len).a = s.a := rfl
@[simp] theorem advance_f (s : State) (len : Nat) : (s.advance len).f = s.f := rfl
@[simp] theorem advance_b (s : State) (len : Nat) : (s.advance len).b = s.b := rfl
@[simp] theorem advance_c (s : State) (len : Nat) : (s.advance len).c = s.c := rfl
@[simp] theorem advance_d (s : State) (len : Nat) : (s.advance len).d = s.d := rfl
@[simp] theorem advance_e (s : State) (len : Nat) : (s.advance len).e = s.e := rfl
@[simp] theorem advance_h (s : State) (len : Nat) : (s.advance len).h = s.h := rfl
@[simp] theorem advance_l (s : State) (len : Nat) : (s.advance len).l = s.l := rfl
@[simp] theorem advance_pc (s : State) (len : Nat) : (s.advance len).pc = s.nextPc len := rfl
@[simp] theorem advance_sp (s : State) (len : Nat) : (s.advance len).sp = s.sp := rfl
@[simp] theorem advance_ime (s : State) (len : Nat) : (s.advance len).ime = s.ime := rfl
@[simp] theorem advance_halted (s : State) (len : Nat) : (s.advance len).halted = s.halted := rfl
@[simp] theorem advance_fault (s : State) (len : Nat) : (s.advance len).fault = s.fault := rfl
@[simp] theorem advance_mem (s : State) (len : Nat) : (s.advance len).mem = s.mem := rfl
@[simp] theorem getR8_advance (s : State) (len : Nat) (q : Reg8) :
    (s.advance len).getR8 q = s.getR8 q := by cases q <;> rfl
@[simp] theorem bc_advance (s : State) (len : Nat) : (s.advance len).bc = s.bc := rfl
@[simp] theorem de_advance (s : State) (len : Nat) : (s.advance len).de = s.de := rfl
@[simp] theorem hl_advance (s : State) (len : Nat) : (s.advance len).hl = s.hl := rfl
@[simp] theorem flag_advance (s : State) (len : Nat) (p : Flag) :
    (s.advance len).flag p = s.flag p := rfl
@[simp] theorem readByte_advance (s : State) (len : Nat) (y : Word) :
    (s.advance len).readByte y = s.readByte y := rfl
@[simp] theorem getR16_advance (s : State) (len : Nat) (q : Reg16) :
    (s.advance len).getR16 q = s.getR16 q := by cases q <;> rfl

/-! The update `jump`. -/

@[simp] theorem jump_a (s : State) (target : Word) : (s.jump target).a = s.a := rfl
@[simp] theorem jump_f (s : State) (target : Word) : (s.jump target).f = s.f := rfl
@[simp] theorem jump_b (s : State) (target : Word) : (s.jump target).b = s.b := rfl
@[simp] theorem jump_c (s : State) (target : Word) : (s.jump target).c = s.c := rfl
@[simp] theorem jump_d (s : State) (target : Word) : (s.jump target).d = s.d := rfl
@[simp] theorem jump_e (s : State) (target : Word) : (s.jump target).e = s.e := rfl
@[simp] theorem jump_h (s : State) (target : Word) : (s.jump target).h = s.h := rfl
@[simp] theorem jump_l (s : State) (target : Word) : (s.jump target).l = s.l := rfl
@[simp] theorem jump_pc (s : State) (target : Word) : (s.jump target).pc = target := rfl
@[simp] theorem jump_sp (s : State) (target : Word) : (s.jump target).sp = s.sp := rfl
@[simp] theorem jump_ime (s : State) (target : Word) : (s.jump target).ime = s.ime := rfl
@[simp] theorem jump_halted (s : State) (target : Word) : (s.jump target).halted = s.halted := rfl
@[simp] theorem jump_fault (s : State) (target : Word) : (s.jump target).fault = s.fault := rfl
@[simp] theorem jump_mem (s : State) (target : Word) : (s.jump target).mem = s.mem := rfl
@[simp] theorem getR8_jump (s : State) (target : Word) (q : Reg8) :
    (s.jump target).getR8 q = s.getR8 q := by cases q <;> rfl
@[simp] theorem bc_jump (s : State) (target : Word) : (s.jump target).bc = s.bc := rfl
@[simp] theorem de_jump (s : State) (target : Word) : (s.jump target).de = s.de := rfl
@[simp] theorem hl_jump (s : State) (target : Word) : (s.jump target).hl = s.hl := rfl
@[simp] theorem flag_jump (s : State) (target : Word) (p : Flag) :
    (s.jump target).flag p = s.flag p := rfl
@[simp] theorem readByte_jump (s : State) (target : Word) (y : Word) :
    (s.jump target).readByte y = s.readByte y := rfl
@[simp] theorem getR16_jump (s : State) (target : Word) (q : Reg16) :
    (s.jump target).getR16 q = s.getR16 q := by cases q <;> rfl

/-! The update `raise`. -/

@[simp] theorem raise_a (s : State) (x : Fault) : (s.raise x).a = s.a := rfl
@[simp] theorem raise_f (s : State) (x : Fault) : (s.raise x).f = s.f := rfl
@[simp] theorem raise_b (s : State) (x : Fault) : (s.raise x).b = s.b := rfl
@[simp] theorem raise_c (s : State) (x : Fault) : (s.raise x).c = s.c := rfl
@[simp] theorem raise_d (s : State) (x : Fault) : (s.raise x).d = s.d := rfl
@[simp] theorem raise_e (s : State) (x : Fault) : (s.raise x).e = s.e := rfl
@[simp] theorem raise_h (s : State) (x : Fault) : (s.raise x).h = s.h := rfl
@[simp] theorem raise_l (s : State) (x : Fault) : (s.raise x).l = s.l := rfl
@[simp] theorem raise_pc (s : State) (x : Fault) : (s.raise x).pc = s.pc := rfl
@[simp] theorem raise_sp (s : State) (x : Fault) : (s.raise x).sp = s.sp := rfl
@[simp] theorem raise_ime (s : State) (x : Fault) : (s.raise x).ime = s.ime := rfl
@[simp] theorem raise_halted (s : State) (x : Fault) : (s.raise x).halted = s.halted := rfl
@[simp] theorem raise_fault (s : State) (x : Fault) : (s.raise x).fault = some x := rfl
@[simp] theorem raise_mem (s : State) (x : Fault) : (s.raise x).mem = s.mem := rfl
@[simp] theorem getR8_raise (s : State) (x : Fault) (q : Reg8) :
    (s.raise x).getR8 q = s.getR8 q := by cases q <;> rfl
@[simp] theorem bc_raise (s : State) (x : Fault) : (s.raise x).bc = s.bc := rfl
@[simp] theorem de_raise (s : State) (x : Fault) : (s.raise x).de = s.de := rfl
@[simp] theorem hl_raise (s : State) (x : Fault) : (s.raise x).hl = s.hl := rfl
@[simp] theorem flag_raise (s : State) (x : Fault) (p : Flag) :
    (s.raise x).flag p = s.flag p := rfl
@[simp] theorem readByte_raise (s : State) (x : Fault) (y : Word) :
    (s.raise x).readByte y = s.readByte y := rfl
@[simp] theorem getR16_raise (s : State) (x : Fault) (q : Reg16) :
    (s.raise x).getR16 q = s.getR16 q := by cases q <;> rfl

/-! The update `pushByte`. -/

@[simp] theorem pushByte_a (s : State) (v : Byte) : (s.pushByte v).a = s.a := rfl
@[simp] theorem pushByte_f (s : State) (v : Byte) : (s.pushByte v).f = s.f := rfl
@[simp] theorem pushByte_b (s : State) (v : Byte) : (s.pushByte v).b = s.b := rfl
@[simp] theorem pushByte_c (s : State) (v : Byte) : (s.pushByte v).c = s.c := rfl
@[simp] theorem pushByte_d (s : State) (v : Byte) : (s.pushByte v).d = s.d := rfl
@[simp] theorem pushByte_e (s : State) (v : Byte) : (s.pushByte v).e = s.e := rfl
@[simp] theorem pushByte_h (s : State) (v : Byte) : (s.pushByte v).h = s.h := rfl
@[simp] theorem pushByte_l (s : State) (v : Byte) : (s.pushByte v).l = s.l := rfl
@[simp] theorem pushByte_pc (s : State) (v : Byte) : (s.pushByte v).pc = s.pc := rfl
@[simp] theorem pushByte_sp (s : State) (v : Byte) : (s.pushByte v).sp = s.sp - 1 := rfl
@[simp] theorem pushByte_ime (s : State) (v : Byte) : (s.pushByte v).ime = s.ime := rfl
@[simp] theorem pushByte_halted (s : State) (v : Byte) : (s.pushByte v).halted = s.halted := rfl
@[simp] theorem pushByte_fault (s : State) (v : Byte) : (s.pushByte v).fault = s.fault := rfl
@[simp] theorem pushByte_mem (s : State) (v : Byte) :
    (s.pushByte v).mem = s.mem.write (s.sp - 1) v := rfl
@[simp] theorem getR8_pushByte (s : State) (v : Byte) (q : Reg8) :
    (s.pushByte v).getR8 q = s.getR8 q := by cases q <;> rfl
@[simp] theorem bc_pushByte (s : State) (v : Byte) : (s.pushByte v).bc = s.bc := rfl
@[simp] theorem de_pushByte (s : State) (v : Byte) : (s.pushByte v).de = s.de := rfl
@[simp] theorem hl_pushByte (s : State) (v : Byte) : (s.pushByte v).hl = s.hl := rfl
@[simp] theorem flag_pushByte (s : State) (v : Byte) (p : Flag) :
    (s.pushByte v).flag p = s.flag p := rfl

/-! The update `pushWord`. -/

@[simp] theorem pushWord_a (s : State) (v : Word) : (s.pushWord v).a = s.a := rfl
@[simp] theorem pushWord_f (s : State) (v : Word) : (s.pushWord v).f = s.f := rfl
@[simp] theorem pushWord_b (s : State) (v : Word) : (s.pushWord v).b = s.b := rfl
@[simp] theorem pushWord_c (s : State) (v : Word) : (s.pushWord v).c = s.c := rfl
@[simp] theorem pushWord_d (s : State) (v : Word) : (s.pushWord v).d = s.d := rfl
@[simp] theorem pushWord_e (s : State) (v : Word) : (s.pushWord v).e = s.e := rfl
@[simp] theorem pushWord_h (s : State) (v : Word) : (s.pushWord v).h = s.h := rfl
@[simp] theorem pushWord_l (s : State) (v : Word) : (s.pushWord v).l = s.l := rfl
@[simp] theorem pushWord_pc (s : State) (v : Word) : (s.pushWord v).pc = s.pc := rfl
@[simp] theorem pushWord_sp (s : State) (v : Word) : (s.pushWord v).sp = s.sp - 1 - 1 := rfl
@[simp] theorem pushWord_ime (s : State) (v : Word) : (s.pushWord v).ime = s.ime := rfl
@[simp] theorem pushWord_halted (s : State) (v : Word) : (s.pushWord v).halted = s.halted := rfl
@[simp] theorem pushWord_fault (s : State) (v : Word) : (s.pushWord v).fault = s.fault := rfl
@[simp] theorem pushWord_mem (s : State) (v : Word) :
    (s.pushWord v).mem = (s.mem.write (s.sp - 1) (hi v)).write (s.sp - 1 - 1) (lo v) := rfl
@[simp] theorem getR8_pushWord (s : State) (v : Word) (q : Reg8) :
    (s.pushWord v).getR8 q = s.getR8 q := by cases q <;> rfl
@[simp] theorem bc_pushWord (s : State) (v : Word) : (s.pushWord v).bc = s.bc := rfl
@[simp] theorem de_pushWord (s : State) (v : Word) : (s.pushWord v).de = s.de := rfl
@[simp] theorem hl_pushWord (s : State) (v : Word) : (s.pushWord v).hl = s.hl := rfl
@[simp] theorem flag_pushWord (s : State) (v : Word) (p : Flag) :
    (s.pushWord v).flag p = s.flag p := rfl

/-! The update `popped`. -/

@[simp] theorem popped_a (s : State) : (s.popped).a = s.a := rfl
@[simp] theorem popped_f (s : State) : (s.popped).f = s.f := rfl
@[simp] theorem popped_b (s : State) : (s.popped).b = s.b := rfl
@[simp] theorem popped_c (s : State) : (s.popped).c = s.c := rfl
@[simp] theorem popped_d (s : State) : (s.popped).d = s.d := rfl
@[simp] theorem popped_e (s : State) : (s.popped).e = s.e := rfl
@[simp] theorem popped_h (s : State) : (s.popped).h = s.h := rfl
@[simp] theorem popped_l (s : State) : (s.popped).l = s.l := rfl
@[simp] theorem popped_pc (s : State) : (s.popped).pc = s.pc := rfl
@[simp] theorem popped_sp (s : State) : (s.popped).sp = s.sp + 1 + 1 := rfl
@[simp] theorem popped_ime (s : State) : (s.popped).ime = s.ime := rfl
@[simp] theorem popped_halted (s : State) : (s.popped).halted = s.halted := rfl
@[simp] theorem popped_fault (s : State) : (s.popped).fault = s.fault := rfl
@[simp] theorem popped_mem (s : State) : (s.popped).mem = s.mem := rfl
@[simp] theorem getR8_popped (s : State) (q : Reg8) :
    (s.popped).getR8 q = s.getR8 q := by cases q <;> rfl
@[simp] theorem bc_popped (s : State) : (s.popped).bc = s.bc := rfl
@[simp] theorem de_popped (s : State) : (s.popped).de = s.de := rfl
@[simp] theorem hl_popped (s : State) : (s.popped).hl = s.hl := rfl
@[simp] theorem flag_popped (s : State) (p : Flag) : (s.popped).flag p = s.flag p := rfl
@[simp] theorem readByte_popped (s : State) (y : Word) :
    (s.popped).readByte y = s.readByte y := rfl

/-! The update `clearRequest`. -/

@[simp] theorem clearRequest_a (s : State) (k : Fin 5) : (s.clearRequest k).a = s.a := rfl
@[simp] theorem clearRequest_f (s : State) (k : Fin 5) : (s.clearRequest k).f = s.f := rfl
@[simp] theorem clearRequest_b (s : State) (k : Fin 5) : (s.clearRequest k).b = s.b := rfl
@[simp] theorem clearRequest_c (s : State) (k : Fin 5) : (s.clearRequest k).c = s.c := rfl
@[simp] theorem clearRequest_d (s : State) (k : Fin 5) : (s.clearRequest k).d = s.d := rfl
@[simp] theorem clearRequest_e (s : State) (k : Fin 5) : (s.clearRequest k).e = s.e := rfl
@[simp] theorem clearRequest_h (s : State) (k : Fin 5) : (s.clearRequest k).h = s.h := rfl
@[simp] theorem clearRequest_l (s : State) (k : Fin 5) : (s.clearRequest k).l = s.l := rfl
@[simp] theorem clearRequest_pc (s : State) (k : Fin 5) : (s.clearRequest k).pc = s.pc := rfl
@[simp] theorem clearRequest_sp (s : State) (k : Fin 5) : (s.clearRequest k).sp = s.sp := rfl
@[simp] theorem clearRequest_ime (s : State) (k : Fin 5) : (s.clearRequest k).ime = s.ime := rfl
@[simp] theorem clearRequest_halted (s : State) (k : Fin 5) :
    (s.clearRequest k).halted = s.halted := rfl
@[simp] theorem clearRequest_fault (s : State) (k : Fin 5) :
    (s.clearRequest k).fault = s.fault := rfl
@[simp] theorem clearRequest_mem (s : State) (k : Fin 5) :
    (s.clearRequest k).mem = s.mem.write addrIF (s.readByte addrIF &&& ~~~ (bitMask (k.castLE (by decide)))) := rfl
@[simp] theorem getR8_clearRequest (s : State) (k : Fin 5) (q : Reg8) :
    (s.clearRequest k).getR8 q = s.getR8 q := by cases q <;> rfl
@[simp] theorem bc_clearRequest (s : State) (k : Fin 5) : (s.clearRequest k).bc = s.bc := rfl
@[simp] theorem de_clearRequest (s : State) (k : Fin 5) : (s.clearRequest k).de = s.de := rfl
@[simp] theorem hl_clearRequest (s : State) (k : Fin 5) : (s.clearRequest k).hl = s.hl := rfl
@[simp] theorem flag_clearRequest (s : State) (k : Fin 5) (p : Flag) :
    (s.clearRequest k).flag p = s.flag p := rfl
@[simp] theorem getR16_clearRequest (s : State) (k : Fin 5) (q : Reg16) :
    (s.clearRequest k).getR16 q = s.getR16 q := by cases q <;> rfl

/-! The update `maskAndWake`. -/

@[simp] theorem maskAndWake_a (s : State) : (s.maskAndWake).a = s.a := rfl
@[simp] theorem maskAndWake_f (s : State) : (s.maskAndWake).f = s.f := rfl
@[simp] theorem maskAndWake_b (s : State) : (s.maskAndWake).b = s.b := rfl
@[simp] theorem maskAndWake_c (s : State) : (s.maskAndWake).c = s.c := rfl
@[simp] theorem maskAndWake_d (s : State) : (s.maskAndWake).d = s.d := rfl
@[simp] theorem maskAndWake_e (s : State) : (s.maskAndWake).e = s.e := rfl
@[simp] theorem maskAndWake_h (s : State) : (s.maskAndWake).h = s.h := rfl
@[simp] theorem maskAndWake_l (s : State) : (s.maskAndWake).l = s.l := rfl
@[simp] theorem maskAndWake_pc (s : State) : (s.maskAndWake).pc = s.pc := rfl
@[simp] theorem maskAndWake_sp (s : State) : (s.maskAndWake).sp = s.sp := rfl
@[simp] theorem maskAndWake_ime (s : State) : (s.maskAndWake).ime = false := rfl
@[simp] theorem maskAndWake_halted (s : State) : (s.maskAndWake).halted = false := rfl
@[simp] theorem maskAndWake_fault (s : State) : (s.maskAndWake).fault = s.fault := rfl
@[simp] theorem maskAndWake_mem (s : State) : (s.maskAndWake).mem = s.mem := rfl
@[simp] theorem getR8_maskAndWake (s : State) (q : Reg8) :
    (s.maskAndWake).getR8 q = s.getR8 q := by cases q <;> rfl
@[simp] theorem bc_maskAndWake (s : State) : (s.maskAndWake).bc = s.bc := rfl
@[simp] theorem de_maskAndWake (s : State) : (s.maskAndWake).de = s.de := rfl
@[simp] theorem hl_maskAndWake (s : State) : (s.maskAndWake).hl = s.hl := rfl
@[simp] theorem flag_maskAndWake (s : State) (p : Flag) : (s.maskAndWake).flag p = s.flag p := rfl
@[simp] theorem readByte_maskAndWake (s : State) (y : Word) :
    (s.maskAndWake).readByte y = s.readByte y := rfl
@[simp] theorem getR16_maskAndWake (s : State) (q : Reg16) :
    (s.maskAndWake).getR16 q = s.getR16 q := by cases q <;> rfl

/-! The update `setR8`. -/

@[simp] theorem setR8_f (s : State) (r : Reg8) (v : Byte) :
    (s.setR8 r v).f = s.f := by cases r <;> rfl
@[simp] theorem setR8_pc (s : State) (r : Reg8) (v : Byte) :
    (s.setR8 r v).pc = s.pc := by cases r <;> rfl
@[simp] theorem setR8_sp (s : State) (r : Reg8) (v : Byte) :
    (s.setR8 r v).sp = s.sp := by cases r <;> rfl
@[simp] theorem setR8_ime (s : State) (r : Reg8) (v : Byte) :
    (s.setR8 r v).ime = s.ime := by cases r <;> rfl
@[simp] theorem setR8_halted (s : State) (r : Reg8) (v : Byte) :
    (s.setR8 r v).halted = s.halted := by cases r <;> rfl
@[simp] theorem setR8_fault (s : State) (r : Reg8) (v : Byte) :
    (s.setR8 r v).fault = s.fault := by cases r <;> rfl
@[simp] theorem setR8_mem (s : State) (r : Reg8) (v : Byte) :
    (s.setR8 r v).mem = s.mem := by cases r <;> rfl
@[simp] theorem flag_setR8 (s : State) (r : Reg8) (v : Byte) (p : Flag) :
    (s.setR8 r v).flag p = s.flag p := by cases r <;> rfl
@[simp] theorem readByte_setR8 (s : State) (r : Reg8) (v : Byte) (y : Word) :
    (s.setR8 r v).readByte y = s.readByte y := by cases r <;> rfl

/-! The update `setR16`. -/

@[simp] theorem setR16_a (s : State) (r : Reg16) (v : Word) :
    (s.setR16 r v).a = s.a := by cases r <;> rfl
@[simp] theorem setR16_f (s : State) (r : Reg16) (v : Word) :
    (s.setR16 r v).f = s.f := by cases r <;> rfl
@[simp] theorem setR16_pc (s : State) (r : Reg16) (v : Word) :
    (s.setR16 r v).pc = s.pc := by cases r <;> rfl
@[simp] theorem setR16_ime (s : State) (r : Reg16) (v : Word) :
    (s.setR16 r v).ime = s.ime := by cases r <;> rfl
@[simp] theorem setR16_halted (s : State) (r : Reg16) (v : Word) :
    (s.setR16 r v).halted = s.halted := by cases r <;> rfl
@[simp] theorem setR16_fault (s : State) (r : Reg16) (v : Word) :
    (s.setR16 r v).fault = s.fault := by cases r <;> rfl
@[simp] theorem setR16_mem (s : State) (r : Reg16) (v : Word) :
    (s.setR16 r v).mem = s.mem := by cases r <;> rfl
@[simp] theorem flag_setR16 (s : State) (r : Reg16) (v : Word) (p : Flag) :
    (s.setR16 r v).flag p = s.flag p := by cases r <;> rfl
@[simp] theorem readByte_setR16 (s : State) (r : Reg16) (v : Word) (y : Word) :
    (s.setR16 r v).readByte y = s.readByte y := by cases r <;> rfl

/-! The update `setStk`. -/

@[simp] theorem setStk_pc (s : State) (r : RegStk) (v : Word) :
    (s.setStk r v).pc = s.pc := by cases r <;> rfl
@[simp] theorem setStk_sp (s : State) (r : RegStk) (v : Word) :
    (s.setStk r v).sp = s.sp := by cases r <;> rfl
@[simp] theorem setStk_ime (s : State) (r : RegStk) (v : Word) :
    (s.setStk r v).ime = s.ime := by cases r <;> rfl
@[simp] theorem setStk_halted (s : State) (r : RegStk) (v : Word) :
    (s.setStk r v).halted = s.halted := by cases r <;> rfl
@[simp] theorem setStk_fault (s : State) (r : RegStk) (v : Word) :
    (s.setStk r v).fault = s.fault := by cases r <;> rfl
@[simp] theorem setStk_mem (s : State) (r : RegStk) (v : Word) :
    (s.setStk r v).mem = s.mem := by cases r <;> rfl
@[simp] theorem readByte_setStk (s : State) (r : RegStk) (v : Word) (y : Word) :
    (s.setStk r v).readByte y = s.readByte y := by cases r <;> rfl

/-! What is read back after a write. -/

/-- A register read after a register write. -/
theorem getR8_setR8 (s : State) (r q : Reg8) (v : Byte) :
    (s.setR8 r v).getR8 q = if q = r then v else s.getR8 q := by
  cases r <;> cases q <;> rfl

@[simp] theorem getR8_setR8_same (s : State) (r : Reg8) (v : Byte) :
    (s.setR8 r v).getR8 r = v := by cases r <;> rfl

@[simp] theorem getR16_setR16_same (s : State) (r : Reg16) (v : Word) :
    (s.setR16 r v).getR16 r = v := by
  cases r <;> simp [setR16, getR16, bc, de, hl, setHl, pair_hi_lo]

@[simp] theorem sp_setR16_sp (s : State) (v : Word) : (s.setR16 .sp v).sp = v := rfl

/-- A write of a 16-bit register changes SP only where it names it. -/
theorem sp_setR16_ne (s : State) {r : Reg16} (h : r ≠ .sp) (v : Word) :
    (s.setR16 r v).sp = s.sp := by cases r <;> first | rfl | exact absurd rfl h

/-- A write of SP changes no 8-bit register. -/
@[simp] theorem getR8_setR16_sp (s : State) (v : Word) (q : Reg8) :
    (s.setR16 .sp v).getR8 q = s.getR8 q := by cases q <;> rfl

/-- A is the register named A. -/
@[simp] theorem a_setR8_a (s : State) (v : Byte) : (s.setR8 .a v).a = v := rfl

/-- A write of HL changes no other register. -/
theorem getR8_setHl (s : State) (v : Word) {q : Reg8} (h : q ∉ [Reg8.h, Reg8.l]) :
    (s.setHl v).getR8 q = s.getR8 q := by
  cases q <;> first | rfl | exact absurd (by decide) h

@[simp] theorem hl_setHl (s : State) (v : Word) : (s.setHl v).hl = v := by
  simp [setHl, hl, pair_hi_lo]

@[simp] theorem readByte_writeByte_ne (s : State) {x y : Word} (h : y ≠ x) (v : Byte) :
    (s.writeByte x v).readByte y = s.readByte y := Memory.read_write_ne s.mem h v

theorem readByte_writeByte (s : State) (hm : s.mem.wf = true) (x y : Word) (v : Byte) :
    (s.writeByte x v).readByte y = if y = x then v else s.readByte y :=
  Memory.read_write hm x v y

/-- A byte read after a word write (R55). -/
theorem readByte_writeWord (s : State) (hm : s.mem.wf = true) (x y v : Word) :
    (s.writeWord x v).readByte y =
      if y = x + 1 then hi v else if y = x then lo v else s.readByte y :=
  Memory.read_writeWord hm x v y

theorem readByte_writeWord_ne (s : State) {x y : Word} (h : y ≠ x) (h' : y ≠ x + 1) (v : Word) :
    (s.writeWord x v).readByte y = s.readByte y := Memory.read_writeWord_ne s.mem h h' v

/-- What a pop returns, byte by byte (R142). -/
theorem popValue_eq (s : State) : s.popValue = pair (s.readByte (s.sp + 1)) (s.readByte s.sp) := rfl

/-- A flag read after a flag write (R21). -/
theorem flag_setFlag (s : State) (fl p : Flag) (x : Bool) :
    (s.setFlag fl x).flag p = if p = fl then x else s.flag p := by
  by_cases h : p = fl
  · subst h; simp [flag]
  · simp [flag, h, getFlag_putFlag_ne]

@[simp] theorem flag_setFlag_same (s : State) (fl : Flag) (x : Bool) :
    (s.setFlag fl x).flag fl = x := by simp [flag]

@[simp] theorem flag_setFlag_ne (s : State) {fl p : Flag} (h : p ≠ fl) (x : Bool) :
    (s.setFlag fl x).flag p = s.flag p := by simp [flag, getFlag_putFlag_ne _ h]

/-- The flags after the four are written one by one. -/
@[simp] theorem flag_setFlags (s : State) (z n h c : Bool) (p : Flag) :
    (s.setFlags z n h c).flag p =
      match p with | .z => z | .n => n | .h => h | .c => c := by
  cases p <;> simp [setFlags]

/-- The flags after F is written whole. -/
@[simp] theorem flag_setWholeF (s : State) (z n h c : Bool) (p : Flag) :
    (s.setWholeF z n h c).flag p =
      match p with | .z => z | .n => n | .h => h | .c => c := getFlag_packFlags z n h c p

end Sys2Proof.Machine.State
end

