-- ==== Sys2Proof/Laws/Ops.lean ====
section
/-! SUPPORT. What each shared operation can do, once: the push with its check, interrupt entry, the
operand positions, what any instruction can do (`exec_effect`) and what any step can do
(`stepWith_cases`). Later proofs cite these and do not unfold the operations. -/
namespace Sys2Proof.Machine

/-! The operand positions. -/

@[simp] theorem State.pc_setOperand (s : State) (o : Operand8) (v : Byte) :
    (s.setOperand o v).pc = s.pc := by cases o <;> simp [State.setOperand]

@[simp] theorem State.sp_setOperand (s : State) (o : Operand8) (v : Byte) :
    (s.setOperand o v).sp = s.sp := by cases o <;> simp [State.setOperand]

@[simp] theorem State.f_setOperand (s : State) (o : Operand8) (v : Byte) :
    (s.setOperand o v).f = s.f := by cases o <;> simp [State.setOperand]

@[simp] theorem State.flag_setOperand (s : State) (o : Operand8) (v : Byte) (fl : Flag) :
    (s.setOperand o v).flag fl = s.flag fl := by cases o <;> simp [State.setOperand]

@[simp] theorem State.ime_setOperand (s : State) (o : Operand8) (v : Byte) :
    (s.setOperand o v).ime = s.ime := by cases o <;> simp [State.setOperand]

@[simp] theorem State.halted_setOperand (s : State) (o : Operand8) (v : Byte) :
    (s.setOperand o v).halted = s.halted := by cases o <;> simp [State.setOperand]

@[simp] theorem State.fault_setOperand (s : State) (o : Operand8) (v : Byte) :
    (s.setOperand o v).fault = s.fault := by cases o <;> simp [State.setOperand]

/-- An operand position read after it is written; at (HL) in a memory in canonical form. -/
theorem State.getOperand_setOperand (s : State) (o : Operand8) (v : Byte)
    (h : o = .memHl → s.mem.wf = true) : (s.setOperand o v).getOperand o = v := by
  cases o with
  | reg r => simp [State.setOperand, State.getOperand]
  | memHl => simp [State.setOperand, State.getOperand, State.readByte_writeByte s (h rfl)]

/-- A write of an operand position changes no other register. -/
theorem State.getR8_setOperand (s : State) (o : Operand8) (v : Byte) {r : Reg8}
    (h : r ∉ destRegs o) : (s.setOperand o v).getR8 r = s.getR8 r := by
  cases o with
  | reg q => simp_all [State.setOperand, destRegs, State.getR8_setR8]
  | memHl => simp [State.setOperand]

/-- A write of an operand position changes no other byte of memory. -/
theorem State.readByte_setOperand (s : State) (o : Operand8) (v : Byte) {a : Word}
    (h : a ∉ destAddrs s o) : (s.setOperand o v).readByte a = s.readByte a := by
  cases o with
  | reg q => simp [State.setOperand]
  | memHl => exact State.readByte_writeByte_ne s (by simpa [destAddrs] using h) v

/-- A write of an operand position keeps memory canonical. -/
theorem State.wf_setOperand {s : State} (h : s.mem.wf = true) (o : Operand8) (v : Byte) :
    (s.setOperand o v).mem.wf = true := by
  cases o with
  | reg q => simpa [State.setOperand] using h
  | memHl => simpa [State.setOperand] using Memory.wf_write h _ _

/-- The operand read after updates that keep registers and memory. -/
theorem State.getOperand_congr {s t : State} (hr : ∀ r, t.getR8 r = s.getR8 r)
    (hm : t.mem = s.mem) (o : Operand8) : t.getOperand o = s.getOperand o := by
  cases o with
  | reg r => exact hr r
  | memHl =>
    have hh := hr .h; have hl := hr .l
    simp only [State.getR8] at hh hl
    simp [State.getOperand, State.readByte, State.hl, hh, hl, hm]

/-! The stack. -/

theorem State.push16Then_zero {s : State} (h : s.sp = 0) (v : Word) (after : State → State) :
    s.push16Then v after = s.raise .stackFault := by simp [State.push16Then, h]

theorem State.push16Then_ne {s : State} (h : s.sp ≠ 0) (v : Word) (after : State → State) :
    s.push16Then v after = after (s.pushWord v) := if_neg h

/-- A word pushed leaves memory canonical. -/
theorem State.wf_pushWord {s : State} (h : s.mem.wf = true) (v : Word) :
    (s.pushWord v).mem.wf = true := by
  simpa using Memory.wf_write (Memory.wf_write h _ _) _ _

/-! Addresses near SP, with literals in the form `simp` leaves them in. -/

@[simp] theorem Word.sub_one_ne_sub_two (a : Word) : a - 1#16 ≠ a - 2#16 := by bv_omega

@[simp] theorem Word.sub_one_sub_one (a : Word) : a - 1#16 - 1#16 = a - 2#16 := by bv_omega

@[simp] theorem Word.add_one_add_one (a : Word) : a + 1#16 + 1#16 = a + 2#16 := by bv_omega

@[simp] theorem Word.sub_two_add_one (a : Word) : a - 2#16 + 1#16 = a - 1#16 := by bv_omega

@[simp] theorem Word.sub_two_add_two (a : Word) : a - 2#16 + 2#16 = a := by bv_omega

/-- The bytes after a push, in a memory in canonical form. -/
theorem State.readByte_pushWord {s : State} (h : s.mem.wf = true) (v a : Word) :
    (s.pushWord v).readByte a =
      if a = s.sp - 2 then lo v else if a = s.sp - 1 then hi v else s.readByte a := by
  simp [State.readByte, Memory.read_write (Memory.wf_write h _ _), Memory.read_write h]

/-- A push changes no byte but its two. -/
theorem State.readByte_pushWord_ne (s : State) (v : Word) {a : Word}
    (h : a ∉ [s.sp - 1, s.sp - 2]) : (s.pushWord v).readByte a = s.readByte a := by
  simp only [List.mem_cons, List.not_mem_nil, or_false, not_or] at h
  have h2 : a ≠ s.sp - 1 - 1 := by simpa using h.2
  simp only [State.readByte, State.pushWord_mem, Memory.read_write_ne _ h.1,
    Memory.read_write_ne _ h2]

/-! Interrupt entry. -/

theorem State.interruptEntry_zero {s : State} (h : s.sp = 0) :
    s.interruptEntry = s.raise .stackFault := if_pos h

theorem State.interruptEntry_ne {s : State} (h : s.sp ≠ 0) :
    s.interruptEntry =
      ((s.clearRequest (lowestBit s.pendingInterrupts)).maskAndWake.pushWord s.pc).jump
        (interruptVector (lowestBit s.pendingInterrupts)) := if_neg h

/-- Interrupt entry keeps memory canonical. -/
theorem State.wf_interruptEntry {s : State} (h : s.mem.wf = true) :
    s.interruptEntry.mem.wf = true := by
  by_cases hs : s.sp = 0
  · simpa [State.interruptEntry_zero hs] using h
  · rw [State.interruptEntry_ne hs]
    simpa using Memory.wf_write (Memory.wf_write (Memory.wf_write h _ _) _ _) _ _

/-! What an instruction can do. -/

/-- The shared operations an instruction's meaning is one of. -/
inductive Effect (s : State) : State → Prop where
  | loadReg (r : Reg8) (v : Byte) (len : Nat) : Effect s (loadReg r v len s)
  | storeByte (a : Word) (v : Byte) (len : Nat) : Effect s (storeByte a v len s)
  | storeThenHl (v : Word) : Effect s (storeThenHl v s)
  | loadThenHl (v : Word) : Effect s (loadThenHl v s)
  | loadPair (r : Reg16) (v : Word) (len : Nat) : Effect s (loadPair r v len s)
  | loadHlSpPlus (e8 : Byte) : Effect s (loadHlSpPlus e8 s)
  | storeHl (a : Word) : Effect s (storeHl a s)
  | pushPair (r : RegStk) : Effect s (pushPair r s)
  | popPair (r : RegStk) : Effect s (popPair r s)
  | aluApply (op : AluOp) (v : Byte) (len : Nat) : Effect s (aluApply op v len s)
  | incOperand (o : Operand8) : Effect s (incOperand o s)
  | decOperand (o : Operand8) : Effect s (decOperand o s)
  | addHl (r : Reg16) : Effect s (addHl r s)
  | addSp (e8 : Byte) : Effect s (addSp e8 s)
  | incPair (r : Reg16) : Effect s (incPair r s)
  | decPair (r : Reg16) : Effect s (decPair r s)
  | shiftOperand (op : ShiftOp) (o : Operand8) (len : Nat) : Effect s (shiftOperand op o len s)
  | testBit (b : Fin 8) (o : Operand8) : Effect s (testBit b o s)
  | setBit (b : Fin 8) (o : Operand8) : Effect s (setBit b o s)
  | resetBit (b : Fin 8) (o : Operand8) : Effect s (resetBit b o s)
  | jump (a : Word) : Effect s (s.jump a)
  | jumpRelative (e8 : Byte) : Effect s (jumpRelative e8 s)
  | jumpIf (cc : Cond) (a : Word) : Effect s (ifCond cc 3 (fun t => t.jump a) s)
  | jumpRelativeIf (cc : Cond) (e8 : Byte) : Effect s (ifCond cc 2 (jumpRelative e8) s)
  | call (a : Word) (len : Nat) : Effect s (call a len s)
  | callIf (cc : Cond) (a : Word) : Effect s (ifCond cc 3 (call a 3) s)
  | ret : Effect s s.returnToCaller
  | retIf (cc : Cond) : Effect s (ifCond cc 1 State.returnToCaller s)
  | reti : Effect s s.returnFromInterrupt
  | nop : Effect s (s.advance 1)
  | decimalAdjust : Effect s (decimalAdjust s)
  | complementA : Effect s (complementA s)
  | complementCarry : Effect s (complementCarry s)
  | setCarry : Effect s (setCarry s)
  | halt (len : Nat) : Effect s (halt len s)
  | setIme (v : Bool) : Effect s (setIme v s)

/-- The meaning of a CB-table instruction read off the fields of its second byte is one of them. -/
theorem executeCb_effect (op2 : Byte) (s : State) : Effect s (executeCb op2 s) := by
  unfold executeCb
  split
  · exact .shiftOperand ..
  · exact .testBit ..
  · exact .resetBit ..
  · exact .setBit ..

/-- Every instruction, in every state, answers the next state of one of them. -/
theorem exec_effect {i : Instr} {s t : State} (h : exec i s = .next t) : Effect s t := by
  cases i
  case prefixCb => cases h; exact executeCb_effect _ s
  case stop => cases h; exact .halt 2
  all_goals (cases h; with_reducible constructor)

/-! What an instruction does with other parameters: STOP alone differs. -/

@[simp] theorem execWith_stop (cfg : Config) (s : State) :
    execWith cfg .stop s = .next (halt cfg.stopLen s) := rfl

theorem execWith_of_ne_stop (cfg : Config) {i : Instr} (h : i ≠ .stop) (s : State) :
    execWith cfg i s = exec i s := by
  unfold execWith
  split
  · exact absurd rfl h
  · rfl

@[simp] theorem execWith_default (i : Instr) (s : State) :
    execWith Config.default i s = exec i s := by
  by_cases h : i = .stop
  · subst h; rfl
  · exact execWith_of_ne_stop _ h s

/-- With any parameters, an instruction answers the next state of one of the effects. -/
theorem execWith_effect {cfg : Config} {i : Instr} {s t : State} (h : execWith cfg i s = .next t) :
    Effect s t := by
  by_cases hi : i = .stop
  · subst hi; cases h; exact .halt _
  · exact exec_effect (execWith_of_ne_stop cfg hi s ▸ h)

/-! What a step can do. -/

/-- Fetch, decode and execute: the decoded instruction, or the fault alone. -/
theorem executeNext_cases {cfg : Config} {s t : State} (h : executeNext cfg s = .next t) :
    (∃ i, DecodesAtPc s i ∧ execWith cfg i s = .next t) ∨
      ∃ b, t = s.raise (.unknownInstruction b s.pc) := by
  unfold executeNext at h
  split at h
  · exact .inl ⟨_, ‹_›, h⟩
  · cases h; exact .inr ⟨_, rfl⟩
  · cases h; exact .inr ⟨_, rfl⟩

/-- What is executed where the bytes at pc decode. -/
theorem executeNext_of_decodesAtPc (cfg : Config) {s : State} {i : Instr} (h : DecodesAtPc s i) :
    executeNext cfg s = execWith cfg i s := by
  unfold DecodesAtPc at h
  unfold executeNext
  rw [h]

/-- Any step, at its boundary: nothing, interrupt entry, or one instruction. -/
theorem stepWith_cases {cfg : Config} {s t : State} (h : stepWith cfg s = .next t) :
    (s.fault ≠ none ∧ t = s) ∨
    (s.fault = none ∧ s.takesInterrupt cfg = true ∧ t = s.interruptEntry) ∨
    (s.fault = none ∧ s.takesInterrupt cfg = false ∧ s.halted = true ∧ t = s) ∨
    (Executes cfg s ∧ executeNext cfg s = .next t) := by
  unfold stepWith at h
  split at h
  · cases h; simp_all
  · rename_i hf
    split at h
    · rename_i ht; cases h; exact .inr (.inl ⟨hf, ht, rfl⟩)
    · rename_i ht
      have ht' := Bool.eq_false_iff.2 ht
      split at h
      · rename_i hh; cases h; exact .inr (.inr (.inl ⟨hf, ht', hh, rfl⟩))
      · rename_i hh; exact .inr (.inr (.inr ⟨⟨hf, ht', Bool.eq_false_iff.2 hh⟩, h⟩))

end Sys2Proof.Machine
end

