-- ==== Sys2Proof/Laws/PerInstr.lean ====
section
/-! SUPPORT. The family EncodedLength, one lemma per instruction: a well-formed instruction is
encoded in as many bytes as its first byte says, whatever `P_STOP_LEN` is (R81, R95). -/
namespace Sys2Proof.Laws.EncodedLength

/-- The number of bytes of the encoding is the length its first byte gives. -/
def Statement (i : Instr) : Prop :=
  i.wellFormed = true → ∀ cfg : Config, 0 < cfg.stopLen →
    (encodeWith cfg i).length = lengthOf cfg ((encodeWith cfg i).headD 0)
theorem nop : Statement .nop := fun _ _ _ => show 1 = lengthOf _ 0x00 from rfl
theorem ldBcD16 (d16 : Word) : Statement (.ldBcD16 d16) := fun _ _ _ => show 3 = lengthOf _ 0x01 from rfl
theorem ldMBcA : Statement .ldMBcA := fun _ _ _ => show 1 = lengthOf _ 0x02 from rfl
theorem incBc : Statement .incBc := fun _ _ _ => show 1 = lengthOf _ 0x03 from rfl
theorem incB : Statement .incB := fun _ _ _ => show 1 = lengthOf _ 0x04 from rfl
theorem decB : Statement .decB := fun _ _ _ => show 1 = lengthOf _ 0x05 from rfl
theorem ldBD8 (d8 : Byte) : Statement (.ldBD8 d8) := fun _ _ _ => show 2 = lengthOf _ 0x06 from rfl
theorem rlca : Statement .rlca := fun _ _ _ => show 1 = lengthOf _ 0x07 from rfl
theorem ldMA16Hl (a16 : Word) : Statement (.ldMA16Hl a16) := fun _ _ _ => show 3 = lengthOf _ 0x08 from rfl
theorem addHlBc : Statement .addHlBc := fun _ _ _ => show 1 = lengthOf _ 0x09 from rfl
theorem ldAMBc : Statement .ldAMBc := fun _ _ _ => show 1 = lengthOf _ 0x0A from rfl
theorem decBc : Statement .decBc := fun _ _ _ => show 1 = lengthOf _ 0x0B from rfl
theorem incC : Statement .incC := fun _ _ _ => show 1 = lengthOf _ 0x0C from rfl
theorem decC : Statement .decC := fun _ _ _ => show 1 = lengthOf _ 0x0D from rfl
theorem ldCD8 (d8 : Byte) : Statement (.ldCD8 d8) := fun _ _ _ => show 2 = lengthOf _ 0x0E from rfl
theorem rrca : Statement .rrca := fun _ _ _ => show 1 = lengthOf _ 0x0F from rfl
theorem stop : Statement .stop := fun _ cfg h => by
  have hl : lengthOf cfg 0x10 = cfg.stopLen := rfl
  simp only [encodeWith, List.length_cons, List.length_replicate, List.headD_cons, hl]
  omega
theorem ldDeD16 (d16 : Word) : Statement (.ldDeD16 d16) := fun _ _ _ => show 3 = lengthOf _ 0x11 from rfl
theorem ldMDeA : Statement .ldMDeA := fun _ _ _ => show 1 = lengthOf _ 0x12 from rfl
theorem incDe : Statement .incDe := fun _ _ _ => show 1 = lengthOf _ 0x13 from rfl
theorem incD : Statement .incD := fun _ _ _ => show 1 = lengthOf _ 0x14 from rfl
theorem decD : Statement .decD := fun _ _ _ => show 1 = lengthOf _ 0x15 from rfl
theorem ldDD8 (d8 : Byte) : Statement (.ldDD8 d8) := fun _ _ _ => show 2 = lengthOf _ 0x16 from rfl
theorem rla : Statement .rla := fun _ _ _ => show 1 = lengthOf _ 0x17 from rfl
theorem jrE8 (e8 : Byte) : Statement (.jrE8 e8) := fun _ _ _ => show 2 = lengthOf _ 0x18 from rfl
theorem addHlDe : Statement .addHlDe := fun _ _ _ => show 1 = lengthOf _ 0x19 from rfl
theorem ldAMDe : Statement .ldAMDe := fun _ _ _ => show 1 = lengthOf _ 0x1A from rfl
theorem decDe : Statement .decDe := fun _ _ _ => show 1 = lengthOf _ 0x1B from rfl
theorem incE : Statement .incE := fun _ _ _ => show 1 = lengthOf _ 0x1C from rfl
theorem decE : Statement .decE := fun _ _ _ => show 1 = lengthOf _ 0x1D from rfl
theorem ldED8 (d8 : Byte) : Statement (.ldED8 d8) := fun _ _ _ => show 2 = lengthOf _ 0x1E from rfl
theorem rra : Statement .rra := fun _ _ _ => show 1 = lengthOf _ 0x1F from rfl
theorem jrNzE8 (e8 : Byte) : Statement (.jrNzE8 e8) := fun _ _ _ => show 2 = lengthOf _ 0x20 from rfl
theorem ldHlD16 (d16 : Word) : Statement (.ldHlD16 d16) := fun _ _ _ => show 3 = lengthOf _ 0x21 from rfl
theorem ldMHlIncA : Statement .ldMHlIncA := fun _ _ _ => show 1 = lengthOf _ 0x22 from rfl
theorem incHl : Statement .incHl := fun _ _ _ => show 1 = lengthOf _ 0x23 from rfl
theorem incH : Statement .incH := fun _ _ _ => show 1 = lengthOf _ 0x24 from rfl
theorem decH : Statement .decH := fun _ _ _ => show 1 = lengthOf _ 0x25 from rfl
theorem ldHD8 (d8 : Byte) : Statement (.ldHD8 d8) := fun _ _ _ => show 2 = lengthOf _ 0x26 from rfl
theorem daa : Statement .daa := fun _ _ _ => show 1 = lengthOf _ 0x27 from rfl
theorem jrZE8 (e8 : Byte) : Statement (.jrZE8 e8) := fun _ _ _ => show 2 = lengthOf _ 0x28 from rfl
theorem addHlHl : Statement .addHlHl := fun _ _ _ => show 1 = lengthOf _ 0x29 from rfl
theorem ldAMHlInc : Statement .ldAMHlInc := fun _ _ _ => show 1 = lengthOf _ 0x2A from rfl
theorem decHl : Statement .decHl := fun _ _ _ => show 1 = lengthOf _ 0x2B from rfl
theorem incL : Statement .incL := fun _ _ _ => show 1 = lengthOf _ 0x2C from rfl
theorem decL : Statement .decL := fun _ _ _ => show 1 = lengthOf _ 0x2D from rfl
theorem ldLD8 (d8 : Byte) : Statement (.ldLD8 d8) := fun _ _ _ => show 2 = lengthOf _ 0x2E from rfl
theorem cpl : Statement .cpl := fun _ _ _ => show 1 = lengthOf _ 0x2F from rfl
theorem jrNcE8 (e8 : Byte) : Statement (.jrNcE8 e8) := fun _ _ _ => show 2 = lengthOf _ 0x30 from rfl
theorem ldSpD16 (d16 : Word) : Statement (.ldSpD16 d16) := fun _ _ _ => show 3 = lengthOf _ 0x31 from rfl
theorem ldMHlDecA : Statement .ldMHlDecA := fun _ _ _ => show 1 = lengthOf _ 0x32 from rfl
theorem incSp : Statement .incSp := fun _ _ _ => show 1 = lengthOf _ 0x33 from rfl
theorem incMHl : Statement .incMHl := fun _ _ _ => show 1 = lengthOf _ 0x34 from rfl
theorem decMHl : Statement .decMHl := fun _ _ _ => show 1 = lengthOf _ 0x35 from rfl
theorem ldMHlD8 (d8 : Byte) : Statement (.ldMHlD8 d8) := fun _ _ _ => show 2 = lengthOf _ 0x36 from rfl
theorem scf : Statement .scf := fun _ _ _ => show 1 = lengthOf _ 0x37 from rfl
theorem jrCE8 (e8 : Byte) : Statement (.jrCE8 e8) := fun _ _ _ => show 2 = lengthOf _ 0x38 from rfl
theorem addHlSp : Statement .addHlSp := fun _ _ _ => show 1 = lengthOf _ 0x39 from rfl
theorem ldAMHlDec : Statement .ldAMHlDec := fun _ _ _ => show 1 = lengthOf _ 0x3A from rfl
theorem decSp : Statement .decSp := fun _ _ _ => show 1 = lengthOf _ 0x3B from rfl
theorem incA : Statement .incA := fun _ _ _ => show 1 = lengthOf _ 0x3C from rfl
theorem decA : Statement .decA := fun _ _ _ => show 1 = lengthOf _ 0x3D from rfl
theorem ldAD8 (d8 : Byte) : Statement (.ldAD8 d8) := fun _ _ _ => show 2 = lengthOf _ 0x3E from rfl
theorem ccf : Statement .ccf := fun _ _ _ => show 1 = lengthOf _ 0x3F from rfl
theorem ldBB : Statement .ldBB := fun _ _ _ => show 1 = lengthOf _ 0x40 from rfl
theorem ldBC : Statement .ldBC := fun _ _ _ => show 1 = lengthOf _ 0x41 from rfl
theorem ldBD : Statement .ldBD := fun _ _ _ => show 1 = lengthOf _ 0x42 from rfl
theorem ldBE : Statement .ldBE := fun _ _ _ => show 1 = lengthOf _ 0x43 from rfl
theorem ldBH : Statement .ldBH := fun _ _ _ => show 1 = lengthOf _ 0x44 from rfl
theorem ldBL : Statement .ldBL := fun _ _ _ => show 1 = lengthOf _ 0x45 from rfl
theorem ldBMHl : Statement .ldBMHl := fun _ _ _ => show 1 = lengthOf _ 0x46 from rfl
theorem ldBA : Statement .ldBA := fun _ _ _ => show 1 = lengthOf _ 0x47 from rfl
theorem ldCB : Statement .ldCB := fun _ _ _ => show 1 = lengthOf _ 0x48 from rfl
theorem ldCC : Statement .ldCC := fun _ _ _ => show 1 = lengthOf _ 0x49 from rfl
theorem ldCD : Statement .ldCD := fun _ _ _ => show 1 = lengthOf _ 0x4A from rfl
theorem ldCE : Statement .ldCE := fun _ _ _ => show 1 = lengthOf _ 0x4B from rfl
theorem ldCH : Statement .ldCH := fun _ _ _ => show 1 = lengthOf _ 0x4C from rfl
theorem ldCL : Statement .ldCL := fun _ _ _ => show 1 = lengthOf _ 0x4D from rfl
theorem ldCMHl : Statement .ldCMHl := fun _ _ _ => show 1 = lengthOf _ 0x4E from rfl
theorem ldCA : Statement .ldCA := fun _ _ _ => show 1 = lengthOf _ 0x4F from rfl
theorem ldDB : Statement .ldDB := fun _ _ _ => show 1 = lengthOf _ 0x50 from rfl
theorem ldDC : Statement .ldDC := fun _ _ _ => show 1 = lengthOf _ 0x51 from rfl
theorem ldDD : Statement .ldDD := fun _ _ _ => show 1 = lengthOf _ 0x52 from rfl
theorem ldDE : Statement .ldDE := fun _ _ _ => show 1 = lengthOf _ 0x53 from rfl
theorem ldDH : Statement .ldDH := fun _ _ _ => show 1 = lengthOf _ 0x54 from rfl
theorem ldDL : Statement .ldDL := fun _ _ _ => show 1 = lengthOf _ 0x55 from rfl
theorem ldDMHl : Statement .ldDMHl := fun _ _ _ => show 1 = lengthOf _ 0x56 from rfl
theorem ldDA : Statement .ldDA := fun _ _ _ => show 1 = lengthOf _ 0x57 from rfl
theorem ldEB : Statement .ldEB := fun _ _ _ => show 1 = lengthOf _ 0x58 from rfl
theorem ldEC : Statement .ldEC := fun _ _ _ => show 1 = lengthOf _ 0x59 from rfl
theorem ldED : Statement .ldED := fun _ _ _ => show 1 = lengthOf _ 0x5A from rfl
theorem ldEE : Statement .ldEE := fun _ _ _ => show 1 = lengthOf _ 0x5B from rfl
theorem ldEH : Statement .ldEH := fun _ _ _ => show 1 = lengthOf _ 0x5C from rfl
theorem ldEL : Statement .ldEL := fun _ _ _ => show 1 = lengthOf _ 0x5D from rfl
theorem ldEMHl : Statement .ldEMHl := fun _ _ _ => show 1 = lengthOf _ 0x5E from rfl
theorem ldEA : Statement .ldEA := fun _ _ _ => show 1 = lengthOf _ 0x5F from rfl
theorem ldHB : Statement .ldHB := fun _ _ _ => show 1 = lengthOf _ 0x60 from rfl
theorem ldHC : Statement .ldHC := fun _ _ _ => show 1 = lengthOf _ 0x61 from rfl
theorem ldHD : Statement .ldHD := fun _ _ _ => show 1 = lengthOf _ 0x62 from rfl
theorem ldHE : Statement .ldHE := fun _ _ _ => show 1 = lengthOf _ 0x63 from rfl
theorem ldHH : Statement .ldHH := fun _ _ _ => show 1 = lengthOf _ 0x64 from rfl
theorem ldHL : Statement .ldHL := fun _ _ _ => show 1 = lengthOf _ 0x65 from rfl
theorem ldHMHl : Statement .ldHMHl := fun _ _ _ => show 1 = lengthOf _ 0x66 from rfl
theorem ldHA : Statement .ldHA := fun _ _ _ => show 1 = lengthOf _ 0x67 from rfl
theorem ldLB : Statement .ldLB := fun _ _ _ => show 1 = lengthOf _ 0x68 from rfl
theorem ldLC : Statement .ldLC := fun _ _ _ => show 1 = lengthOf _ 0x69 from rfl
theorem ldLD : Statement .ldLD := fun _ _ _ => show 1 = lengthOf _ 0x6A from rfl
theorem ldLE : Statement .ldLE := fun _ _ _ => show 1 = lengthOf _ 0x6B from rfl
theorem ldLH : Statement .ldLH := fun _ _ _ => show 1 = lengthOf _ 0x6C from rfl
theorem ldLL : Statement .ldLL := fun _ _ _ => show 1 = lengthOf _ 0x6D from rfl
theorem ldLMHl : Statement .ldLMHl := fun _ _ _ => show 1 = lengthOf _ 0x6E from rfl
theorem ldLA : Statement .ldLA := fun _ _ _ => show 1 = lengthOf _ 0x6F from rfl
theorem ldMHlB : Statement .ldMHlB := fun _ _ _ => show 1 = lengthOf _ 0x70 from rfl
theorem ldMHlC : Statement .ldMHlC := fun _ _ _ => show 1 = lengthOf _ 0x71 from rfl
theorem ldMHlD : Statement .ldMHlD := fun _ _ _ => show 1 = lengthOf _ 0x72 from rfl
theorem ldMHlE : Statement .ldMHlE := fun _ _ _ => show 1 = lengthOf _ 0x73 from rfl
theorem ldMHlH : Statement .ldMHlH := fun _ _ _ => show 1 = lengthOf _ 0x74 from rfl
theorem ldMHlL : Statement .ldMHlL := fun _ _ _ => show 1 = lengthOf _ 0x75 from rfl
theorem halt : Statement .halt := fun _ _ _ => show 1 = lengthOf _ 0x76 from rfl
theorem ldMHlA : Statement .ldMHlA := fun _ _ _ => show 1 = lengthOf _ 0x77 from rfl
theorem ldAB : Statement .ldAB := fun _ _ _ => show 1 = lengthOf _ 0x78 from rfl
theorem ldAC : Statement .ldAC := fun _ _ _ => show 1 = lengthOf _ 0x79 from rfl
theorem ldAD : Statement .ldAD := fun _ _ _ => show 1 = lengthOf _ 0x7A from rfl
theorem ldAE : Statement .ldAE := fun _ _ _ => show 1 = lengthOf _ 0x7B from rfl
theorem ldAH : Statement .ldAH := fun _ _ _ => show 1 = lengthOf _ 0x7C from rfl
theorem ldAL : Statement .ldAL := fun _ _ _ => show 1 = lengthOf _ 0x7D from rfl
theorem ldAMHl : Statement .ldAMHl := fun _ _ _ => show 1 = lengthOf _ 0x7E from rfl
theorem ldAA : Statement .ldAA := fun _ _ _ => show 1 = lengthOf _ 0x7F from rfl
theorem addAB : Statement .addAB := fun _ _ _ => show 1 = lengthOf _ 0x80 from rfl
theorem addAC : Statement .addAC := fun _ _ _ => show 1 = lengthOf _ 0x81 from rfl
theorem addAD : Statement .addAD := fun _ _ _ => show 1 = lengthOf _ 0x82 from rfl
theorem addAE : Statement .addAE := fun _ _ _ => show 1 = lengthOf _ 0x83 from rfl
theorem addAH : Statement .addAH := fun _ _ _ => show 1 = lengthOf _ 0x84 from rfl
theorem addAL : Statement .addAL := fun _ _ _ => show 1 = lengthOf _ 0x85 from rfl
theorem addAMHl : Statement .addAMHl := fun _ _ _ => show 1 = lengthOf _ 0x86 from rfl
theorem addAA : Statement .addAA := fun _ _ _ => show 1 = lengthOf _ 0x87 from rfl
theorem adcAB : Statement .adcAB := fun _ _ _ => show 1 = lengthOf _ 0x88 from rfl
theorem adcAC : Statement .adcAC := fun _ _ _ => show 1 = lengthOf _ 0x89 from rfl
theorem adcAD : Statement .adcAD := fun _ _ _ => show 1 = lengthOf _ 0x8A from rfl
theorem adcAE : Statement .adcAE := fun _ _ _ => show 1 = lengthOf _ 0x8B from rfl
theorem adcAH : Statement .adcAH := fun _ _ _ => show 1 = lengthOf _ 0x8C from rfl
theorem adcAL : Statement .adcAL := fun _ _ _ => show 1 = lengthOf _ 0x8D from rfl
theorem adcAMHl : Statement .adcAMHl := fun _ _ _ => show 1 = lengthOf _ 0x8E from rfl
theorem adcAA : Statement .adcAA := fun _ _ _ => show 1 = lengthOf _ 0x8F from rfl
theorem subAB : Statement .subAB := fun _ _ _ => show 1 = lengthOf _ 0x90 from rfl
theorem subAC : Statement .subAC := fun _ _ _ => show 1 = lengthOf _ 0x91 from rfl
theorem subAD : Statement .subAD := fun _ _ _ => show 1 = lengthOf _ 0x92 from rfl
theorem subAE : Statement .subAE := fun _ _ _ => show 1 = lengthOf _ 0x93 from rfl
theorem subAH : Statement .subAH := fun _ _ _ => show 1 = lengthOf _ 0x94 from rfl
theorem subAL : Statement .subAL := fun _ _ _ => show 1 = lengthOf _ 0x95 from rfl
theorem subAMHl : Statement .subAMHl := fun _ _ _ => show 1 = lengthOf _ 0x96 from rfl
theorem subAA : Statement .subAA := fun _ _ _ => show 1 = lengthOf _ 0x97 from rfl
theorem sbcAB : Statement .sbcAB := fun _ _ _ => show 1 = lengthOf _ 0x98 from rfl
theorem sbcAC : Statement .sbcAC := fun _ _ _ => show 1 = lengthOf _ 0x99 from rfl
theorem sbcAD : Statement .sbcAD := fun _ _ _ => show 1 = lengthOf _ 0x9A from rfl
theorem sbcAE : Statement .sbcAE := fun _ _ _ => show 1 = lengthOf _ 0x9B from rfl
theorem sbcAH : Statement .sbcAH := fun _ _ _ => show 1 = lengthOf _ 0x9C from rfl
theorem sbcAL : Statement .sbcAL := fun _ _ _ => show 1 = lengthOf _ 0x9D from rfl
theorem sbcAMHl : Statement .sbcAMHl := fun _ _ _ => show 1 = lengthOf _ 0x9E from rfl
theorem sbcAA : Statement .sbcAA := fun _ _ _ => show 1 = lengthOf _ 0x9F from rfl
theorem andAB : Statement .andAB := fun _ _ _ => show 1 = lengthOf _ 0xA0 from rfl
theorem andAC : Statement .andAC := fun _ _ _ => show 1 = lengthOf _ 0xA1 from rfl
theorem andAD : Statement .andAD := fun _ _ _ => show 1 = lengthOf _ 0xA2 from rfl
theorem andAE : Statement .andAE := fun _ _ _ => show 1 = lengthOf _ 0xA3 from rfl
theorem andAH : Statement .andAH := fun _ _ _ => show 1 = lengthOf _ 0xA4 from rfl
theorem andAL : Statement .andAL := fun _ _ _ => show 1 = lengthOf _ 0xA5 from rfl
theorem andAMHl : Statement .andAMHl := fun _ _ _ => show 1 = lengthOf _ 0xA6 from rfl
theorem andAA : Statement .andAA := fun _ _ _ => show 1 = lengthOf _ 0xA7 from rfl
theorem xorAB : Statement .xorAB := fun _ _ _ => show 1 = lengthOf _ 0xA8 from rfl
theorem xorAC : Statement .xorAC := fun _ _ _ => show 1 = lengthOf _ 0xA9 from rfl
theorem xorAD : Statement .xorAD := fun _ _ _ => show 1 = lengthOf _ 0xAA from rfl
theorem xorAE : Statement .xorAE := fun _ _ _ => show 1 = lengthOf _ 0xAB from rfl
theorem xorAH : Statement .xorAH := fun _ _ _ => show 1 = lengthOf _ 0xAC from rfl
theorem xorAL : Statement .xorAL := fun _ _ _ => show 1 = lengthOf _ 0xAD from rfl
theorem xorAMHl : Statement .xorAMHl := fun _ _ _ => show 1 = lengthOf _ 0xAE from rfl
theorem xorAA : Statement .xorAA := fun _ _ _ => show 1 = lengthOf _ 0xAF from rfl
theorem orAB : Statement .orAB := fun _ _ _ => show 1 = lengthOf _ 0xB0 from rfl
theorem orAC : Statement .orAC := fun _ _ _ => show 1 = lengthOf _ 0xB1 from rfl
theorem orAD : Statement .orAD := fun _ _ _ => show 1 = lengthOf _ 0xB2 from rfl
theorem orAE : Statement .orAE := fun _ _ _ => show 1 = lengthOf _ 0xB3 from rfl
theorem orAH : Statement .orAH := fun _ _ _ => show 1 = lengthOf _ 0xB4 from rfl
theorem orAL : Statement .orAL := fun _ _ _ => show 1 = lengthOf _ 0xB5 from rfl
theorem orAMHl : Statement .orAMHl := fun _ _ _ => show 1 = lengthOf _ 0xB6 from rfl
theorem orAA : Statement .orAA := fun _ _ _ => show 1 = lengthOf _ 0xB7 from rfl
theorem cpAB : Statement .cpAB := fun _ _ _ => show 1 = lengthOf _ 0xB8 from rfl
theorem cpAC : Statement .cpAC := fun _ _ _ => show 1 = lengthOf _ 0xB9 from rfl
theorem cpAD : Statement .cpAD := fun _ _ _ => show 1 = lengthOf _ 0xBA from rfl
theorem cpAE : Statement .cpAE := fun _ _ _ => show 1 = lengthOf _ 0xBB from rfl
theorem cpAH : Statement .cpAH := fun _ _ _ => show 1 = lengthOf _ 0xBC from rfl
theorem cpAL : Statement .cpAL := fun _ _ _ => show 1 = lengthOf _ 0xBD from rfl
theorem cpAMHl : Statement .cpAMHl := fun _ _ _ => show 1 = lengthOf _ 0xBE from rfl
theorem cpAA : Statement .cpAA := fun _ _ _ => show 1 = lengthOf _ 0xBF from rfl
theorem retNz : Statement .retNz := fun _ _ _ => show 1 = lengthOf _ 0xC0 from rfl
theorem popBc : Statement .popBc := fun _ _ _ => show 1 = lengthOf _ 0xC1 from rfl
theorem jpNzA16 (a16 : Word) : Statement (.jpNzA16 a16) := fun _ _ _ => show 3 = lengthOf _ 0xC2 from rfl
theorem jpA16 (a16 : Word) : Statement (.jpA16 a16) := fun _ _ _ => show 3 = lengthOf _ 0xC3 from rfl
theorem callNzA16 (a16 : Word) : Statement (.callNzA16 a16) := fun _ _ _ => show 3 = lengthOf _ 0xC4 from rfl
theorem pushBc : Statement .pushBc := fun _ _ _ => show 1 = lengthOf _ 0xC5 from rfl
theorem addAD8 (d8 : Byte) : Statement (.addAD8 d8) := fun _ _ _ => show 2 = lengthOf _ 0xC6 from rfl
theorem rst00 : Statement .rst00 := fun _ _ _ => show 1 = lengthOf _ 0xC7 from rfl
theorem retZ : Statement .retZ := fun _ _ _ => show 1 = lengthOf _ 0xC8 from rfl
theorem ret : Statement .ret := fun _ _ _ => show 1 = lengthOf _ 0xC9 from rfl
theorem jpZA16 (a16 : Word) : Statement (.jpZA16 a16) := fun _ _ _ => show 3 = lengthOf _ 0xCA from rfl
theorem prefixCb : Statement .prefixCb := fun h => nomatch h
theorem callZA16 (a16 : Word) : Statement (.callZA16 a16) := fun _ _ _ => show 3 = lengthOf _ 0xCC from rfl
theorem callA16 (a16 : Word) : Statement (.callA16 a16) := fun _ _ _ => show 3 = lengthOf _ 0xCD from rfl
theorem adcAD8 (d8 : Byte) : Statement (.adcAD8 d8) := fun _ _ _ => show 2 = lengthOf _ 0xCE from rfl
theorem rst08 : Statement .rst08 := fun _ _ _ => show 1 = lengthOf _ 0xCF from rfl
theorem retNc : Statement .retNc := fun _ _ _ => show 1 = lengthOf _ 0xD0 from rfl
theorem popDe : Statement .popDe := fun _ _ _ => show 1 = lengthOf _ 0xD1 from rfl
theorem jpNcA16 (a16 : Word) : Statement (.jpNcA16 a16) := fun _ _ _ => show 3 = lengthOf _ 0xD2 from rfl
theorem callNcA16 (a16 : Word) : Statement (.callNcA16 a16) := fun _ _ _ => show 3 = lengthOf _ 0xD4 from rfl
theorem pushDe : Statement .pushDe := fun _ _ _ => show 1 = lengthOf _ 0xD5 from rfl
theorem subAD8 (d8 : Byte) : Statement (.subAD8 d8) := fun _ _ _ => show 2 = lengthOf _ 0xD6 from rfl
theorem rst10 : Statement .rst10 := fun _ _ _ => show 1 = lengthOf _ 0xD7 from rfl
theorem retC : Statement .retC := fun _ _ _ => show 1 = lengthOf _ 0xD8 from rfl
theorem reti : Statement .reti := fun _ _ _ => show 1 = lengthOf _ 0xD9 from rfl
theorem jpCA16 (a16 : Word) : Statement (.jpCA16 a16) := fun _ _ _ => show 3 = lengthOf _ 0xDA from rfl
theorem callCA16 (a16 : Word) : Statement (.callCA16 a16) := fun _ _ _ => show 3 = lengthOf _ 0xDC from rfl
theorem sbcAD8 (d8 : Byte) : Statement (.sbcAD8 d8) := fun _ _ _ => show 2 = lengthOf _ 0xDE from rfl
theorem rst18 : Statement .rst18 := fun _ _ _ => show 1 = lengthOf _ 0xDF from rfl
theorem ldhMA8A (a8 : Byte) : Statement (.ldhMA8A a8) := fun _ _ _ => show 2 = lengthOf _ 0xE0 from rfl
theorem popHl : Statement .popHl := fun _ _ _ => show 1 = lengthOf _ 0xE1 from rfl
theorem ldhMCA : Statement .ldhMCA := fun _ _ _ => show 1 = lengthOf _ 0xE2 from rfl
theorem pushHl : Statement .pushHl := fun _ _ _ => show 1 = lengthOf _ 0xE5 from rfl
theorem andAD8 (d8 : Byte) : Statement (.andAD8 d8) := fun _ _ _ => show 2 = lengthOf _ 0xE6 from rfl
theorem rst20 : Statement .rst20 := fun _ _ _ => show 1 = lengthOf _ 0xE7 from rfl
theorem addSpE8 (e8 : Byte) : Statement (.addSpE8 e8) := fun _ _ _ => show 2 = lengthOf _ 0xE8 from rfl
theorem jpHl : Statement .jpHl := fun _ _ _ => show 1 = lengthOf _ 0xE9 from rfl
theorem ldMA16A (a16 : Word) : Statement (.ldMA16A a16) := fun _ _ _ => show 3 = lengthOf _ 0xEA from rfl
theorem xorAD8 (d8 : Byte) : Statement (.xorAD8 d8) := fun _ _ _ => show 2 = lengthOf _ 0xEE from rfl
theorem rst28 : Statement .rst28 := fun _ _ _ => show 1 = lengthOf _ 0xEF from rfl
theorem ldhAMA8 (a8 : Byte) : Statement (.ldhAMA8 a8) := fun _ _ _ => show 2 = lengthOf _ 0xF0 from rfl
theorem popAf : Statement .popAf := fun _ _ _ => show 1 = lengthOf _ 0xF1 from rfl
theorem ldhAMC : Statement .ldhAMC := fun _ _ _ => show 1 = lengthOf _ 0xF2 from rfl
theorem di : Statement .di := fun _ _ _ => show 1 = lengthOf _ 0xF3 from rfl
theorem pushAf : Statement .pushAf := fun _ _ _ => show 1 = lengthOf _ 0xF5 from rfl
theorem orAD8 (d8 : Byte) : Statement (.orAD8 d8) := fun _ _ _ => show 2 = lengthOf _ 0xF6 from rfl
theorem rst30 : Statement .rst30 := fun _ _ _ => show 1 = lengthOf _ 0xF7 from rfl
theorem ldHlSpE8 (e8 : Byte) : Statement (.ldHlSpE8 e8) := fun _ _ _ => show 2 = lengthOf _ 0xF8 from rfl
theorem ldSpHl : Statement .ldSpHl := fun _ _ _ => show 1 = lengthOf _ 0xF9 from rfl
theorem ldAMA16 (a16 : Word) : Statement (.ldAMA16 a16) := fun _ _ _ => show 3 = lengthOf _ 0xFA from rfl
theorem ei : Statement .ei := fun _ _ _ => show 1 = lengthOf _ 0xFB from rfl
theorem cpAD8 (d8 : Byte) : Statement (.cpAD8 d8) := fun _ _ _ => show 2 = lengthOf _ 0xFE from rfl
theorem rst38 : Statement .rst38 := fun _ _ _ => show 1 = lengthOf _ 0xFF from rfl
theorem rlcB : Statement .rlcB := fun _ _ _ => show 2 = lengthOf _ 0xCB from rfl
theorem rlcC : Statement .rlcC := fun _ _ _ => show 2 = lengthOf _ 0xCB from rfl
theorem rlcD : Statement .rlcD := fun _ _ _ => show 2 = lengthOf _ 0xCB from rfl
theorem rlcE : Statement .rlcE := fun _ _ _ => show 2 = lengthOf _ 0xCB from rfl
theorem rlcH : Statement .rlcH := fun _ _ _ => show 2 = lengthOf _ 0xCB from rfl
theorem rlcL : Statement .rlcL := fun _ _ _ => show 2 = lengthOf _ 0xCB from rfl
theorem rlcMHl : Statement .rlcMHl := fun _ _ _ => show 2 = lengthOf _ 0xCB from rfl
theorem rlcA : Statement .rlcA := fun _ _ _ => show 2 = lengthOf _ 0xCB from rfl
theorem rrcB : Statement .rrcB := fun _ _ _ => show 2 = lengthOf _ 0xCB from rfl
theorem rrcC : Statement .rrcC := fun _ _ _ => show 2 = lengthOf _ 0xCB from rfl
theorem rrcD : Statement .rrcD := fun _ _ _ => show 2 = lengthOf _ 0xCB from rfl
theorem rrcE : Statement .rrcE := fun _ _ _ => show 2 = lengthOf _ 0xCB from rfl
theorem rrcH : Statement .rrcH := fun _ _ _ => show 2 = lengthOf _ 0xCB from rfl
theorem rrcL : Statement .rrcL := fun _ _ _ => show 2 = lengthOf _ 0xCB from rfl
theorem rrcMHl : Statement .rrcMHl := fun _ _ _ => show 2 = lengthOf _ 0xCB from rfl
theorem rrcA : Statement .rrcA := fun _ _ _ => show 2 = lengthOf _ 0xCB from rfl
theorem rlB : Statement .rlB := fun _ _ _ => show 2 = lengthOf _ 0xCB from rfl
theorem rlC : Statement .rlC := fun _ _ _ => show 2 = lengthOf _ 0xCB from rfl
theorem rlD : Statement .rlD := fun _ _ _ => show 2 = lengthOf _ 0xCB from rfl
theorem rlE : Statement .rlE := fun _ _ _ => show 2 = lengthOf _ 0xCB from rfl
theorem rlH : Statement .rlH := fun _ _ _ => show 2 = lengthOf _ 0xCB from rfl
theorem rlL : Statement .rlL := fun _ _ _ => show 2 = lengthOf _ 0xCB from rfl
theorem rlMHl : Statement .rlMHl := fun _ _ _ => show 2 = lengthOf _ 0xCB from rfl
theorem rlA : Statement .rlA := fun _ _ _ => show 2 = lengthOf _ 0xCB from rfl
theorem rrB : Statement .rrB := fun _ _ _ => show 2 = lengthOf _ 0xCB from rfl
theorem rrC : Statement .rrC := fun _ _ _ => show 2 = lengthOf _ 0xCB from rfl
theorem rrD : Statement .rrD := fun _ _ _ => show 2 = lengthOf _ 0xCB from rfl
theorem rrE : Statement .rrE := fun _ _ _ => show 2 = lengthOf _ 0xCB from rfl
theorem rrH : Statement .rrH := fun _ _ _ => show 2 = lengthOf _ 0xCB from rfl
theorem rrL : Statement .rrL := fun _ _ _ => show 2 = lengthOf _ 0xCB from rfl
theorem rrMHl : Statement .rrMHl := fun _ _ _ => show 2 = lengthOf _ 0xCB from rfl
theorem rrA : Statement .rrA := fun _ _ _ => show 2 = lengthOf _ 0xCB from rfl
theorem slaB : Statement .slaB := fun _ _ _ => show 2 = lengthOf _ 0xCB from rfl
theorem slaC : Statement .slaC := fun _ _ _ => show 2 = lengthOf _ 0xCB from rfl
theorem slaD : Statement .slaD := fun _ _ _ => show 2 = lengthOf _ 0xCB from rfl
theorem slaE : Statement .slaE := fun _ _ _ => show 2 = lengthOf _ 0xCB from rfl
theorem slaH : Statement .slaH := fun _ _ _ => show 2 = lengthOf _ 0xCB from rfl
theorem slaL : Statement .slaL := fun _ _ _ => show 2 = lengthOf _ 0xCB from rfl
theorem slaMHl : Statement .slaMHl := fun _ _ _ => show 2 = lengthOf _ 0xCB from rfl
theorem slaA : Statement .slaA := fun _ _ _ => show 2 = lengthOf _ 0xCB from rfl
theorem sraB : Statement .sraB := fun _ _ _ => show 2 = lengthOf _ 0xCB from rfl
theorem sraC : Statement .sraC := fun _ _ _ => show 2 = lengthOf _ 0xCB from rfl
theorem sraD : Statement .sraD := fun _ _ _ => show 2 = lengthOf _ 0xCB from rfl
theorem sraE : Statement .sraE := fun _ _ _ => show 2 = lengthOf _ 0xCB from rfl
theorem sraH : Statement .sraH := fun _ _ _ => show 2 = lengthOf _ 0xCB from rfl
theorem sraL : Statement .sraL := fun _ _ _ => show 2 = lengthOf _ 0xCB from rfl
theorem sraMHl : Statement .sraMHl := fun _ _ _ => show 2 = lengthOf _ 0xCB from rfl
theorem sraA : Statement .sraA := fun _ _ _ => show 2 = lengthOf _ 0xCB from rfl
theorem swapB : Statement .swapB := fun _ _ _ => show 2 = lengthOf _ 0xCB from rfl
theorem swapC : Statement .swapC := fun _ _ _ => show 2 = lengthOf _ 0xCB from rfl
theorem swapD : Statement .swapD := fun _ _ _ => show 2 = lengthOf _ 0xCB from rfl
theorem swapE : Statement .swapE := fun _ _ _ => show 2 = lengthOf _ 0xCB from rfl
theorem swapH : Statement .swapH := fun _ _ _ => show 2 = lengthOf _ 0xCB from rfl
theorem swapL : Statement .swapL := fun _ _ _ => show 2 = lengthOf _ 0xCB from rfl
theorem swapMHl : Statement .swapMHl := fun _ _ _ => show 2 = lengthOf _ 0xCB from rfl
theorem swapA : Statement .swapA := fun _ _ _ => show 2 = lengthOf _ 0xCB from rfl
theorem srlB : Statement .srlB := fun _ _ _ => show 2 = lengthOf _ 0xCB from rfl
theorem srlC : Statement .srlC := fun _ _ _ => show 2 = lengthOf _ 0xCB from rfl
theorem srlD : Statement .srlD := fun _ _ _ => show 2 = lengthOf _ 0xCB from rfl
theorem srlE : Statement .srlE := fun _ _ _ => show 2 = lengthOf _ 0xCB from rfl
theorem srlH : Statement .srlH := fun _ _ _ => show 2 = lengthOf _ 0xCB from rfl
theorem srlL : Statement .srlL := fun _ _ _ => show 2 = lengthOf _ 0xCB from rfl
theorem srlMHl : Statement .srlMHl := fun _ _ _ => show 2 = lengthOf _ 0xCB from rfl
theorem srlA : Statement .srlA := fun _ _ _ => show 2 = lengthOf _ 0xCB from rfl
theorem bit0B : Statement .bit0B := fun _ _ _ => show 2 = lengthOf _ 0xCB from rfl
theorem bit0C : Statement .bit0C := fun _ _ _ => show 2 = lengthOf _ 0xCB from rfl
theorem bit0D : Statement .bit0D := fun _ _ _ => show 2 = lengthOf _ 0xCB from rfl
theorem bit0E : Statement .bit0E := fun _ _ _ => show 2 = lengthOf _ 0xCB from rfl
theorem bit0H : Statement .bit0H := fun _ _ _ => show 2 = lengthOf _ 0xCB from rfl
theorem bit0L : Statement .bit0L := fun _ _ _ => show 2 = lengthOf _ 0xCB from rfl
theorem bit0MHl : Statement .bit0MHl := fun _ _ _ => show 2 = lengthOf _ 0xCB from rfl
theorem bit0A : Statement .bit0A := fun _ _ _ => show 2 = lengthOf _ 0xCB from rfl
theorem bit1B : Statement .bit1B := fun _ _ _ => show 2 = lengthOf _ 0xCB from rfl
theorem bit1C : Statement .bit1C := fun _ _ _ => show 2 = lengthOf _ 0xCB from rfl
theorem bit1D : Statement .bit1D := fun _ _ _ => show 2 = lengthOf _ 0xCB from rfl
theorem bit1E : Statement .bit1E := fun _ _ _ => show 2 = lengthOf _ 0xCB from rfl
theorem bit1H : Statement .bit1H := fun _ _ _ => show 2 = lengthOf _ 0xCB from rfl
theorem bit1L : Statement .bit1L := fun _ _ _ => show 2 = lengthOf _ 0xCB from rfl
theorem bit1MHl : Statement .bit1MHl := fun _ _ _ => show 2 = lengthOf _ 0xCB from rfl
theorem bit1A : Statement .bit1A := fun _ _ _ => show 2 = lengthOf _ 0xCB from rfl
theorem bit2B : Statement .bit2B := fun _ _ _ => show 2 = lengthOf _ 0xCB from rfl
theorem bit2C : Statement .bit2C := fun _ _ _ => show 2 = lengthOf _ 0xCB from rfl
theorem bit2D : Statement .bit2D := fun _ _ _ => show 2 = lengthOf _ 0xCB from rfl
theorem bit2E : Statement .bit2E := fun _ _ _ => show 2 = lengthOf _ 0xCB from rfl
theorem bit2H : Statement .bit2H := fun _ _ _ => show 2 = lengthOf _ 0xCB from rfl
theorem bit2L : Statement .bit2L := fun _ _ _ => show 2 = lengthOf _ 0xCB from rfl
theorem bit2MHl : Statement .bit2MHl := fun _ _ _ => show 2 = lengthOf _ 0xCB from rfl
theorem bit2A : Statement .bit2A := fun _ _ _ => show 2 = lengthOf _ 0xCB from rfl
theorem bit3B : Statement .bit3B := fun _ _ _ => show 2 = lengthOf _ 0xCB from rfl
theorem bit3C : Statement .bit3C := fun _ _ _ => show 2 = lengthOf _ 0xCB from rfl
theorem bit3D : Statement .bit3D := fun _ _ _ => show 2 = lengthOf _ 0xCB from rfl
theorem bit3E : Statement .bit3E := fun _ _ _ => show 2 = lengthOf _ 0xCB from rfl
theorem bit3H : Statement .bit3H := fun _ _ _ => show 2 = lengthOf _ 0xCB from rfl
theorem bit3L : Statement .bit3L := fun _ _ _ => show 2 = lengthOf _ 0xCB from rfl
theorem bit3MHl : Statement .bit3MHl := fun _ _ _ => show 2 = lengthOf _ 0xCB from rfl
theorem bit3A : Statement .bit3A := fun _ _ _ => show 2 = lengthOf _ 0xCB from rfl
theorem bit4B : Statement .bit4B := fun _ _ _ => show 2 = lengthOf _ 0xCB from rfl
theorem bit4C : Statement .bit4C := fun _ _ _ => show 2 = lengthOf _ 0xCB from rfl
theorem bit4D : Statement .bit4D := fun _ _ _ => show 2 = lengthOf _ 0xCB from rfl
theorem bit4E : Statement .bit4E := fun _ _ _ => show 2 = lengthOf _ 0xCB from rfl
theorem bit4H : Statement .bit4H := fun _ _ _ => show 2 = lengthOf _ 0xCB from rfl
theorem bit4L : Statement .bit4L := fun _ _ _ => show 2 = lengthOf _ 0xCB from rfl
theorem bit4MHl : Statement .bit4MHl := fun _ _ _ => show 2 = lengthOf _ 0xCB from rfl
theorem bit4A : Statement .bit4A := fun _ _ _ => show 2 = lengthOf _ 0xCB from rfl
theorem bit5B : Statement .bit5B := fun _ _ _ => show 2 = lengthOf _ 0xCB from rfl
theorem bit5C : Statement .bit5C := fun _ _ _ => show 2 = lengthOf _ 0xCB from rfl
theorem bit5D : Statement .bit5D := fun _ _ _ => show 2 = lengthOf _ 0xCB from rfl
theorem bit5E : Statement .bit5E := fun _ _ _ => show 2 = lengthOf _ 0xCB from rfl
theorem bit5H : Statement .bit5H := fun _ _ _ => show 2 = lengthOf _ 0xCB from rfl
theorem bit5L : Statement .bit5L := fun _ _ _ => show 2 = lengthOf _ 0xCB from rfl
theorem bit5MHl : Statement .bit5MHl := fun _ _ _ => show 2 = lengthOf _ 0xCB from rfl
theorem bit5A : Statement .bit5A := fun _ _ _ => show 2 = lengthOf _ 0xCB from rfl
theorem bit6B : Statement .bit6B := fun _ _ _ => show 2 = lengthOf _ 0xCB from rfl
theorem bit6C : Statement .bit6C := fun _ _ _ => show 2 = lengthOf _ 0xCB from rfl
theorem bit6D : Statement .bit6D := fun _ _ _ => show 2 = lengthOf _ 0xCB from rfl
theorem bit6E : Statement .bit6E := fun _ _ _ => show 2 = lengthOf _ 0xCB from rfl
theorem bit6H : Statement .bit6H := fun _ _ _ => show 2 = lengthOf _ 0xCB from rfl
theorem bit6L : Statement .bit6L := fun _ _ _ => show 2 = lengthOf _ 0xCB from rfl
theorem bit6MHl : Statement .bit6MHl := fun _ _ _ => show 2 = lengthOf _ 0xCB from rfl
theorem bit6A : Statement .bit6A := fun _ _ _ => show 2 = lengthOf _ 0xCB from rfl
theorem bit7B : Statement .bit7B := fun _ _ _ => show 2 = lengthOf _ 0xCB from rfl
theorem bit7C : Statement .bit7C := fun _ _ _ => show 2 = lengthOf _ 0xCB from rfl
theorem bit7D : Statement .bit7D := fun _ _ _ => show 2 = lengthOf _ 0xCB from rfl
theorem bit7E : Statement .bit7E := fun _ _ _ => show 2 = lengthOf _ 0xCB from rfl
theorem bit7H : Statement .bit7H := fun _ _ _ => show 2 = lengthOf _ 0xCB from rfl
theorem bit7L : Statement .bit7L := fun _ _ _ => show 2 = lengthOf _ 0xCB from rfl
theorem bit7MHl : Statement .bit7MHl := fun _ _ _ => show 2 = lengthOf _ 0xCB from rfl
theorem bit7A : Statement .bit7A := fun _ _ _ => show 2 = lengthOf _ 0xCB from rfl
theorem res0B : Statement .res0B := fun _ _ _ => show 2 = lengthOf _ 0xCB from rfl
theorem res0C : Statement .res0C := fun _ _ _ => show 2 = lengthOf _ 0xCB from rfl
theorem res0D : Statement .res0D := fun _ _ _ => show 2 = lengthOf _ 0xCB from rfl
theorem res0E : Statement .res0E := fun _ _ _ => show 2 = lengthOf _ 0xCB from rfl
theorem res0H : Statement .res0H := fun _ _ _ => show 2 = lengthOf _ 0xCB from rfl
theorem res0L : Statement .res0L := fun _ _ _ => show 2 = lengthOf _ 0xCB from rfl
theorem res0MHl : Statement .res0MHl := fun _ _ _ => show 2 = lengthOf _ 0xCB from rfl
theorem res0A : Statement .res0A := fun _ _ _ => show 2 = lengthOf _ 0xCB from rfl
theorem res1B : Statement .res1B := fun _ _ _ => show 2 = lengthOf _ 0xCB from rfl
theorem res1C : Statement .res1C := fun _ _ _ => show 2 = lengthOf _ 0xCB from rfl
theorem res1D : Statement .res1D := fun _ _ _ => show 2 = lengthOf _ 0xCB from rfl
theorem res1E : Statement .res1E := fun _ _ _ => show 2 = lengthOf _ 0xCB from rfl
theorem res1H : Statement .res1H := fun _ _ _ => show 2 = lengthOf _ 0xCB from rfl
theorem res1L : Statement .res1L := fun _ _ _ => show 2 = lengthOf _ 0xCB from rfl
theorem res1MHl : Statement .res1MHl := fun _ _ _ => show 2 = lengthOf _ 0xCB from rfl
theorem res1A : Statement .res1A := fun _ _ _ => show 2 = lengthOf _ 0xCB from rfl
theorem res2B : Statement .res2B := fun _ _ _ => show 2 = lengthOf _ 0xCB from rfl
theorem res2C : Statement .res2C := fun _ _ _ => show 2 = lengthOf _ 0xCB from rfl
theorem res2D : Statement .res2D := fun _ _ _ => show 2 = lengthOf _ 0xCB from rfl
theorem res2E : Statement .res2E := fun _ _ _ => show 2 = lengthOf _ 0xCB from rfl
theorem res2H : Statement .res2H := fun _ _ _ => show 2 = lengthOf _ 0xCB from rfl
theorem res2L : Statement .res2L := fun _ _ _ => show 2 = lengthOf _ 0xCB from rfl
theorem res2MHl : Statement .res2MHl := fun _ _ _ => show 2 = lengthOf _ 0xCB from rfl
theorem res2A : Statement .res2A := fun _ _ _ => show 2 = lengthOf _ 0xCB from rfl
theorem res3B : Statement .res3B := fun _ _ _ => show 2 = lengthOf _ 0xCB from rfl
theorem res3C : Statement .res3C := fun _ _ _ => show 2 = lengthOf _ 0xCB from rfl
theorem res3D : Statement .res3D := fun _ _ _ => show 2 = lengthOf _ 0xCB from rfl
theorem res3E : Statement .res3E := fun _ _ _ => show 2 = lengthOf _ 0xCB from rfl
theorem res3H : Statement .res3H := fun _ _ _ => show 2 = lengthOf _ 0xCB from rfl
theorem res3L : Statement .res3L := fun _ _ _ => show 2 = lengthOf _ 0xCB from rfl
theorem res3MHl : Statement .res3MHl := fun _ _ _ => show 2 = lengthOf _ 0xCB from rfl
theorem res3A : Statement .res3A := fun _ _ _ => show 2 = lengthOf _ 0xCB from rfl
theorem res4B : Statement .res4B := fun _ _ _ => show 2 = lengthOf _ 0xCB from rfl
theorem res4C : Statement .res4C := fun _ _ _ => show 2 = lengthOf _ 0xCB from rfl
theorem res4D : Statement .res4D := fun _ _ _ => show 2 = lengthOf _ 0xCB from rfl
theorem res4E : Statement .res4E := fun _ _ _ => show 2 = lengthOf _ 0xCB from rfl
theorem res4H : Statement .res4H := fun _ _ _ => show 2 = lengthOf _ 0xCB from rfl
theorem res4L : Statement .res4L := fun _ _ _ => show 2 = lengthOf _ 0xCB from rfl
theorem res4MHl : Statement .res4MHl := fun _ _ _ => show 2 = lengthOf _ 0xCB from rfl
theorem res4A : Statement .res4A := fun _ _ _ => show 2 = lengthOf _ 0xCB from rfl
theorem res5B : Statement .res5B := fun _ _ _ => show 2 = lengthOf _ 0xCB from rfl
theorem res5C : Statement .res5C := fun _ _ _ => show 2 = lengthOf _ 0xCB from rfl
theorem res5D : Statement .res5D := fun _ _ _ => show 2 = lengthOf _ 0xCB from rfl
theorem res5E : Statement .res5E := fun _ _ _ => show 2 = lengthOf _ 0xCB from rfl
theorem res5H : Statement .res5H := fun _ _ _ => show 2 = lengthOf _ 0xCB from rfl
theorem res5L : Statement .res5L := fun _ _ _ => show 2 = lengthOf _ 0xCB from rfl
theorem res5MHl : Statement .res5MHl := fun _ _ _ => show 2 = lengthOf _ 0xCB from rfl
theorem res5A : Statement .res5A := fun _ _ _ => show 2 = lengthOf _ 0xCB from rfl
theorem res6B : Statement .res6B := fun _ _ _ => show 2 = lengthOf _ 0xCB from rfl
theorem res6C : Statement .res6C := fun _ _ _ => show 2 = lengthOf _ 0xCB from rfl
theorem res6D : Statement .res6D := fun _ _ _ => show 2 = lengthOf _ 0xCB from rfl
theorem res6E : Statement .res6E := fun _ _ _ => show 2 = lengthOf _ 0xCB from rfl
theorem res6H : Statement .res6H := fun _ _ _ => show 2 = lengthOf _ 0xCB from rfl
theorem res6L : Statement .res6L := fun _ _ _ => show 2 = lengthOf _ 0xCB from rfl
theorem res6MHl : Statement .res6MHl := fun _ _ _ => show 2 = lengthOf _ 0xCB from rfl
theorem res6A : Statement .res6A := fun _ _ _ => show 2 = lengthOf _ 0xCB from rfl
theorem res7B : Statement .res7B := fun _ _ _ => show 2 = lengthOf _ 0xCB from rfl
theorem res7C : Statement .res7C := fun _ _ _ => show 2 = lengthOf _ 0xCB from rfl
theorem res7D : Statement .res7D := fun _ _ _ => show 2 = lengthOf _ 0xCB from rfl
theorem res7E : Statement .res7E := fun _ _ _ => show 2 = lengthOf _ 0xCB from rfl
theorem res7H : Statement .res7H := fun _ _ _ => show 2 = lengthOf _ 0xCB from rfl
theorem res7L : Statement .res7L := fun _ _ _ => show 2 = lengthOf _ 0xCB from rfl
theorem res7MHl : Statement .res7MHl := fun _ _ _ => show 2 = lengthOf _ 0xCB from rfl
theorem res7A : Statement .res7A := fun _ _ _ => show 2 = lengthOf _ 0xCB from rfl
theorem set0B : Statement .set0B := fun _ _ _ => show 2 = lengthOf _ 0xCB from rfl
theorem set0C : Statement .set0C := fun _ _ _ => show 2 = lengthOf _ 0xCB from rfl
theorem set0D : Statement .set0D := fun _ _ _ => show 2 = lengthOf _ 0xCB from rfl
theorem set0E : Statement .set0E := fun _ _ _ => show 2 = lengthOf _ 0xCB from rfl
theorem set0H : Statement .set0H := fun _ _ _ => show 2 = lengthOf _ 0xCB from rfl
theorem set0L : Statement .set0L := fun _ _ _ => show 2 = lengthOf _ 0xCB from rfl
theorem set0MHl : Statement .set0MHl := fun _ _ _ => show 2 = lengthOf _ 0xCB from rfl
theorem set0A : Statement .set0A := fun _ _ _ => show 2 = lengthOf _ 0xCB from rfl
theorem set1B : Statement .set1B := fun _ _ _ => show 2 = lengthOf _ 0xCB from rfl
theorem set1C : Statement .set1C := fun _ _ _ => show 2 = lengthOf _ 0xCB from rfl
theorem set1D : Statement .set1D := fun _ _ _ => show 2 = lengthOf _ 0xCB from rfl
theorem set1E : Statement .set1E := fun _ _ _ => show 2 = lengthOf _ 0xCB from rfl
theorem set1H : Statement .set1H := fun _ _ _ => show 2 = lengthOf _ 0xCB from rfl
theorem set1L : Statement .set1L := fun _ _ _ => show 2 = lengthOf _ 0xCB from rfl
theorem set1MHl : Statement .set1MHl := fun _ _ _ => show 2 = lengthOf _ 0xCB from rfl
theorem set1A : Statement .set1A := fun _ _ _ => show 2 = lengthOf _ 0xCB from rfl
theorem set2B : Statement .set2B := fun _ _ _ => show 2 = lengthOf _ 0xCB from rfl
theorem set2C : Statement .set2C := fun _ _ _ => show 2 = lengthOf _ 0xCB from rfl
theorem set2D : Statement .set2D := fun _ _ _ => show 2 = lengthOf _ 0xCB from rfl
theorem set2E : Statement .set2E := fun _ _ _ => show 2 = lengthOf _ 0xCB from rfl
theorem set2H : Statement .set2H := fun _ _ _ => show 2 = lengthOf _ 0xCB from rfl
theorem set2L : Statement .set2L := fun _ _ _ => show 2 = lengthOf _ 0xCB from rfl
theorem set2MHl : Statement .set2MHl := fun _ _ _ => show 2 = lengthOf _ 0xCB from rfl
theorem set2A : Statement .set2A := fun _ _ _ => show 2 = lengthOf _ 0xCB from rfl
theorem set3B : Statement .set3B := fun _ _ _ => show 2 = lengthOf _ 0xCB from rfl
theorem set3C : Statement .set3C := fun _ _ _ => show 2 = lengthOf _ 0xCB from rfl
theorem set3D : Statement .set3D := fun _ _ _ => show 2 = lengthOf _ 0xCB from rfl
theorem set3E : Statement .set3E := fun _ _ _ => show 2 = lengthOf _ 0xCB from rfl
theorem set3H : Statement .set3H := fun _ _ _ => show 2 = lengthOf _ 0xCB from rfl
theorem set3L : Statement .set3L := fun _ _ _ => show 2 = lengthOf _ 0xCB from rfl
theorem set3MHl : Statement .set3MHl := fun _ _ _ => show 2 = lengthOf _ 0xCB from rfl
theorem set3A : Statement .set3A := fun _ _ _ => show 2 = lengthOf _ 0xCB from rfl
theorem set4B : Statement .set4B := fun _ _ _ => show 2 = lengthOf _ 0xCB from rfl
theorem set4C : Statement .set4C := fun _ _ _ => show 2 = lengthOf _ 0xCB from rfl
theorem set4D : Statement .set4D := fun _ _ _ => show 2 = lengthOf _ 0xCB from rfl
theorem set4E : Statement .set4E := fun _ _ _ => show 2 = lengthOf _ 0xCB from rfl
theorem set4H : Statement .set4H := fun _ _ _ => show 2 = lengthOf _ 0xCB from rfl
theorem set4L : Statement .set4L := fun _ _ _ => show 2 = lengthOf _ 0xCB from rfl
theorem set4MHl : Statement .set4MHl := fun _ _ _ => show 2 = lengthOf _ 0xCB from rfl
theorem set4A : Statement .set4A := fun _ _ _ => show 2 = lengthOf _ 0xCB from rfl
theorem set5B : Statement .set5B := fun _ _ _ => show 2 = lengthOf _ 0xCB from rfl
theorem set5C : Statement .set5C := fun _ _ _ => show 2 = lengthOf _ 0xCB from rfl
theorem set5D : Statement .set5D := fun _ _ _ => show 2 = lengthOf _ 0xCB from rfl
theorem set5E : Statement .set5E := fun _ _ _ => show 2 = lengthOf _ 0xCB from rfl
theorem set5H : Statement .set5H := fun _ _ _ => show 2 = lengthOf _ 0xCB from rfl
theorem set5L : Statement .set5L := fun _ _ _ => show 2 = lengthOf _ 0xCB from rfl
theorem set5MHl : Statement .set5MHl := fun _ _ _ => show 2 = lengthOf _ 0xCB from rfl
theorem set5A : Statement .set5A := fun _ _ _ => show 2 = lengthOf _ 0xCB from rfl
theorem set6B : Statement .set6B := fun _ _ _ => show 2 = lengthOf _ 0xCB from rfl
theorem set6C : Statement .set6C := fun _ _ _ => show 2 = lengthOf _ 0xCB from rfl
theorem set6D : Statement .set6D := fun _ _ _ => show 2 = lengthOf _ 0xCB from rfl
theorem set6E : Statement .set6E := fun _ _ _ => show 2 = lengthOf _ 0xCB from rfl
theorem set6H : Statement .set6H := fun _ _ _ => show 2 = lengthOf _ 0xCB from rfl
theorem set6L : Statement .set6L := fun _ _ _ => show 2 = lengthOf _ 0xCB from rfl
theorem set6MHl : Statement .set6MHl := fun _ _ _ => show 2 = lengthOf _ 0xCB from rfl
theorem set6A : Statement .set6A := fun _ _ _ => show 2 = lengthOf _ 0xCB from rfl
theorem set7B : Statement .set7B := fun _ _ _ => show 2 = lengthOf _ 0xCB from rfl
theorem set7C : Statement .set7C := fun _ _ _ => show 2 = lengthOf _ 0xCB from rfl
theorem set7D : Statement .set7D := fun _ _ _ => show 2 = lengthOf _ 0xCB from rfl
theorem set7E : Statement .set7E := fun _ _ _ => show 2 = lengthOf _ 0xCB from rfl
theorem set7H : Statement .set7H := fun _ _ _ => show 2 = lengthOf _ 0xCB from rfl
theorem set7L : Statement .set7L := fun _ _ _ => show 2 = lengthOf _ 0xCB from rfl
theorem set7MHl : Statement .set7MHl := fun _ _ _ => show 2 = lengthOf _ 0xCB from rfl
theorem set7A : Statement .set7A := fun _ _ _ => show 2 = lengthOf _ 0xCB from rfl

end Sys2Proof.Laws.EncodedLength
end

