-- ==== Sys2Proof/Tests/Slice0.lean ====
section
/-! SUPPORT. The model's own tests: the well-formedness check, the decoding of every row of the opcode
table by its word, single steps from the spec's worked examples, and for every statement with
hypotheses a witness that meets them. -/
namespace Sys2Proof.Tests
open Sys2Proof.Machine

/-! Well-formedness. -/

/-- The one ill-formed term is refused (R300). -/
theorem test_prefix_is_not_wellFormed : Instr.prefixCb.wellFormed = false := rfl

/-- The instruction of a CB word is well-formed. -/
theorem test_swap_is_wellFormed : Instr.swapA.wellFormed = true := rfl

/-! Decoding: the word of each row of spec/opcode_table.json, operand bytes zero. The prefix's own row
is no instruction by itself: with a zero byte after it, it is RLC B (log 5). -/

/-- Every word of the list decodes to the instruction beside it. -/
def allDecode (nbits : Nat) (rows : List (Nat × Instr)) : Bool :=
  rows.all fun r => decide (decodeTableWord nbits r.1 = some r.2)

theorem test_decode_0x : allDecode 8
    [(0x00, .nop), (0x01, .ldBcD16 0), (0x02, .ldMBcA), (0x03, .incBc), (0x04, .incB),
     (0x05, .decB), (0x06, .ldBD8 0), (0x07, .rlca), (0x08, .ldMA16Hl 0), (0x09, .addHlBc),
     (0x0A, .ldAMBc), (0x0B, .decBc), (0x0C, .incC), (0x0D, .decC), (0x0E, .ldCD8 0),
     (0x0F, .rrca)] = true := by rfl

theorem test_decode_1x : allDecode 8
    [(0x10, .stop), (0x11, .ldDeD16 0), (0x12, .ldMDeA), (0x13, .incDe), (0x14, .incD),
     (0x15, .decD), (0x16, .ldDD8 0), (0x17, .rla), (0x18, .jrE8 0), (0x19, .addHlDe),
     (0x1A, .ldAMDe), (0x1B, .decDe), (0x1C, .incE), (0x1D, .decE), (0x1E, .ldED8 0),
     (0x1F, .rra)] = true := by rfl

theorem test_decode_2x : allDecode 8
    [(0x20, .jrNzE8 0), (0x21, .ldHlD16 0), (0x22, .ldMHlIncA), (0x23, .incHl),
     (0x24, .incH), (0x25, .decH), (0x26, .ldHD8 0), (0x27, .daa), (0x28, .jrZE8 0),
     (0x29, .addHlHl), (0x2A, .ldAMHlInc), (0x2B, .decHl), (0x2C, .incL), (0x2D, .decL),
     (0x2E, .ldLD8 0), (0x2F, .cpl)] = true := by rfl

theorem test_decode_3x : allDecode 8
    [(0x30, .jrNcE8 0), (0x31, .ldSpD16 0), (0x32, .ldMHlDecA), (0x33, .incSp),
     (0x34, .incMHl), (0x35, .decMHl), (0x36, .ldMHlD8 0), (0x37, .scf), (0x38, .jrCE8 0),
     (0x39, .addHlSp), (0x3A, .ldAMHlDec), (0x3B, .decSp), (0x3C, .incA), (0x3D, .decA),
     (0x3E, .ldAD8 0), (0x3F, .ccf)] = true := by rfl

theorem test_decode_4x : allDecode 8
    [(0x40, .ldBB), (0x41, .ldBC), (0x42, .ldBD), (0x43, .ldBE), (0x44, .ldBH),
     (0x45, .ldBL), (0x46, .ldBMHl), (0x47, .ldBA), (0x48, .ldCB), (0x49, .ldCC),
     (0x4A, .ldCD), (0x4B, .ldCE), (0x4C, .ldCH), (0x4D, .ldCL), (0x4E, .ldCMHl),
     (0x4F, .ldCA)] = true := by rfl

theorem test_decode_5x : allDecode 8
    [(0x50, .ldDB), (0x51, .ldDC), (0x52, .ldDD), (0x53, .ldDE), (0x54, .ldDH),
     (0x55, .ldDL), (0x56, .ldDMHl), (0x57, .ldDA), (0x58, .ldEB), (0x59, .ldEC),
     (0x5A, .ldED), (0x5B, .ldEE), (0x5C, .ldEH), (0x5D, .ldEL), (0x5E, .ldEMHl),
     (0x5F, .ldEA)] = true := by rfl

theorem test_decode_6x : allDecode 8
    [(0x60, .ldHB), (0x61, .ldHC), (0x62, .ldHD), (0x63, .ldHE), (0x64, .ldHH),
     (0x65, .ldHL), (0x66, .ldHMHl), (0x67, .ldHA), (0x68, .ldLB), (0x69, .ldLC),
     (0x6A, .ldLD), (0x6B, .ldLE), (0x6C, .ldLH), (0x6D, .ldLL), (0x6E, .ldLMHl),
     (0x6F, .ldLA)] = true := by rfl

theorem test_decode_7x : allDecode 8
    [(0x70, .ldMHlB), (0x71, .ldMHlC), (0x72, .ldMHlD), (0x73, .ldMHlE), (0x74, .ldMHlH),
     (0x75, .ldMHlL), (0x76, .halt), (0x77, .ldMHlA), (0x78, .ldAB), (0x79, .ldAC),
     (0x7A, .ldAD), (0x7B, .ldAE), (0x7C, .ldAH), (0x7D, .ldAL), (0x7E, .ldAMHl),
     (0x7F, .ldAA)] = true := by rfl

theorem test_decode_8x : allDecode 8
    [(0x80, .addAB), (0x81, .addAC), (0x82, .addAD), (0x83, .addAE), (0x84, .addAH),
     (0x85, .addAL), (0x86, .addAMHl), (0x87, .addAA), (0x88, .adcAB), (0x89, .adcAC),
     (0x8A, .adcAD), (0x8B, .adcAE), (0x8C, .adcAH), (0x8D, .adcAL), (0x8E, .adcAMHl),
     (0x8F, .adcAA)] = true := by rfl

theorem test_decode_9x : allDecode 8
    [(0x90, .subAB), (0x91, .subAC), (0x92, .subAD), (0x93, .subAE), (0x94, .subAH),
     (0x95, .subAL), (0x96, .subAMHl), (0x97, .subAA), (0x98, .sbcAB), (0x99, .sbcAC),
     (0x9A, .sbcAD), (0x9B, .sbcAE), (0x9C, .sbcAH), (0x9D, .sbcAL), (0x9E, .sbcAMHl),
     (0x9F, .sbcAA)] = true := by rfl

theorem test_decode_Ax : allDecode 8
    [(0xA0, .andAB), (0xA1, .andAC), (0xA2, .andAD), (0xA3, .andAE), (0xA4, .andAH),
     (0xA5, .andAL), (0xA6, .andAMHl), (0xA7, .andAA), (0xA8, .xorAB), (0xA9, .xorAC),
     (0xAA, .xorAD), (0xAB, .xorAE), (0xAC, .xorAH), (0xAD, .xorAL), (0xAE, .xorAMHl),
     (0xAF, .xorAA)] = true := by rfl

theorem test_decode_Bx : allDecode 8
    [(0xB0, .orAB), (0xB1, .orAC), (0xB2, .orAD), (0xB3, .orAE), (0xB4, .orAH),
     (0xB5, .orAL), (0xB6, .orAMHl), (0xB7, .orAA), (0xB8, .cpAB), (0xB9, .cpAC),
     (0xBA, .cpAD), (0xBB, .cpAE), (0xBC, .cpAH), (0xBD, .cpAL), (0xBE, .cpAMHl),
     (0xBF, .cpAA)] = true := by rfl

theorem test_decode_Cx : allDecode 8
    [(0xC0, .retNz), (0xC1, .popBc), (0xC2, .jpNzA16 0), (0xC3, .jpA16 0),
     (0xC4, .callNzA16 0), (0xC5, .pushBc), (0xC6, .addAD8 0), (0xC7, .rst00), (0xC8, .retZ),
     (0xC9, .ret), (0xCA, .jpZA16 0), (0xCB, .rlcB), (0xCC, .callZA16 0), (0xCD, .callA16 0),
     (0xCE, .adcAD8 0), (0xCF, .rst08)] = true := by rfl

theorem test_decode_Dx : allDecode 8
    [(0xD0, .retNc), (0xD1, .popDe), (0xD2, .jpNcA16 0), (0xD4, .callNcA16 0),
     (0xD5, .pushDe), (0xD6, .subAD8 0), (0xD7, .rst10), (0xD8, .retC), (0xD9, .reti),
     (0xDA, .jpCA16 0), (0xDC, .callCA16 0), (0xDE, .sbcAD8 0), (0xDF, .rst18)] = true := by rfl

theorem test_decode_Ex : allDecode 8
    [(0xE0, .ldhMA8A 0), (0xE1, .popHl), (0xE2, .ldhMCA), (0xE5, .pushHl), (0xE6, .andAD8 0),
     (0xE7, .rst20), (0xE8, .addSpE8 0), (0xE9, .jpHl), (0xEA, .ldMA16A 0),
     (0xEE, .xorAD8 0), (0xEF, .rst28)] = true := by rfl

theorem test_decode_Fx : allDecode 8
    [(0xF0, .ldhAMA8 0), (0xF1, .popAf), (0xF2, .ldhAMC), (0xF3, .di), (0xF5, .pushAf),
     (0xF6, .orAD8 0), (0xF7, .rst30), (0xF8, .ldHlSpE8 0), (0xF9, .ldSpHl),
     (0xFA, .ldAMA16 0), (0xFB, .ei), (0xFE, .cpAD8 0), (0xFF, .rst38)] = true := by rfl

theorem test_decode_CB_0x : allDecode 16
    [(0xCB00, .rlcB), (0xCB01, .rlcC), (0xCB02, .rlcD), (0xCB03, .rlcE), (0xCB04, .rlcH),
     (0xCB05, .rlcL), (0xCB06, .rlcMHl), (0xCB07, .rlcA), (0xCB08, .rrcB), (0xCB09, .rrcC),
     (0xCB0A, .rrcD), (0xCB0B, .rrcE), (0xCB0C, .rrcH), (0xCB0D, .rrcL), (0xCB0E, .rrcMHl),
     (0xCB0F, .rrcA)] = true := by rfl

theorem test_decode_CB_1x : allDecode 16
    [(0xCB10, .rlB), (0xCB11, .rlC), (0xCB12, .rlD), (0xCB13, .rlE), (0xCB14, .rlH),
     (0xCB15, .rlL), (0xCB16, .rlMHl), (0xCB17, .rlA), (0xCB18, .rrB), (0xCB19, .rrC),
     (0xCB1A, .rrD), (0xCB1B, .rrE), (0xCB1C, .rrH), (0xCB1D, .rrL), (0xCB1E, .rrMHl),
     (0xCB1F, .rrA)] = true := by rfl

theorem test_decode_CB_2x : allDecode 16
    [(0xCB20, .slaB), (0xCB21, .slaC), (0xCB22, .slaD), (0xCB23, .slaE), (0xCB24, .slaH),
     (0xCB25, .slaL), (0xCB26, .slaMHl), (0xCB27, .slaA), (0xCB28, .sraB), (0xCB29, .sraC),
     (0xCB2A, .sraD), (0xCB2B, .sraE), (0xCB2C, .sraH), (0xCB2D, .sraL), (0xCB2E, .sraMHl),
     (0xCB2F, .sraA)] = true := by rfl

theorem test_decode_CB_3x : allDecode 16
    [(0xCB30, .swapB), (0xCB31, .swapC), (0xCB32, .swapD), (0xCB33, .swapE),
     (0xCB34, .swapH), (0xCB35, .swapL), (0xCB36, .swapMHl), (0xCB37, .swapA),
     (0xCB38, .srlB), (0xCB39, .srlC), (0xCB3A, .srlD), (0xCB3B, .srlE), (0xCB3C, .srlH),
     (0xCB3D, .srlL), (0xCB3E, .srlMHl), (0xCB3F, .srlA)] = true := by rfl

theorem test_decode_CB_4x : allDecode 16
    [(0xCB40, .bit0B), (0xCB41, .bit0C), (0xCB42, .bit0D), (0xCB43, .bit0E),
     (0xCB44, .bit0H), (0xCB45, .bit0L), (0xCB46, .bit0MHl), (0xCB47, .bit0A),
     (0xCB48, .bit1B), (0xCB49, .bit1C), (0xCB4A, .bit1D), (0xCB4B, .bit1E),
     (0xCB4C, .bit1H), (0xCB4D, .bit1L), (0xCB4E, .bit1MHl), (0xCB4F, .bit1A)] = true := by rfl

theorem test_decode_CB_5x : allDecode 16
    [(0xCB50, .bit2B), (0xCB51, .bit2C), (0xCB52, .bit2D), (0xCB53, .bit2E),
     (0xCB54, .bit2H), (0xCB55, .bit2L), (0xCB56, .bit2MHl), (0xCB57, .bit2A),
     (0xCB58, .bit3B), (0xCB59, .bit3C), (0xCB5A, .bit3D), (0xCB5B, .bit3E),
     (0xCB5C, .bit3H), (0xCB5D, .bit3L), (0xCB5E, .bit3MHl), (0xCB5F, .bit3A)] = true := by rfl

theorem test_decode_CB_6x : allDecode 16
    [(0xCB60, .bit4B), (0xCB61, .bit4C), (0xCB62, .bit4D), (0xCB63, .bit4E),
     (0xCB64, .bit4H), (0xCB65, .bit4L), (0xCB66, .bit4MHl), (0xCB67, .bit4A),
     (0xCB68, .bit5B), (0xCB69, .bit5C), (0xCB6A, .bit5D), (0xCB6B, .bit5E),
     (0xCB6C, .bit5H), (0xCB6D, .bit5L), (0xCB6E, .bit5MHl), (0xCB6F, .bit5A)] = true := by rfl

theorem test_decode_CB_7x : allDecode 16
    [(0xCB70, .bit6B), (0xCB71, .bit6C), (0xCB72, .bit6D), (0xCB73, .bit6E),
     (0xCB74, .bit6H), (0xCB75, .bit6L), (0xCB76, .bit6MHl), (0xCB77, .bit6A),
     (0xCB78, .bit7B), (0xCB79, .bit7C), (0xCB7A, .bit7D), (0xCB7B, .bit7E),
     (0xCB7C, .bit7H), (0xCB7D, .bit7L), (0xCB7E, .bit7MHl), (0xCB7F, .bit7A)] = true := by rfl

theorem test_decode_CB_8x : allDecode 16
    [(0xCB80, .res0B), (0xCB81, .res0C), (0xCB82, .res0D), (0xCB83, .res0E),
     (0xCB84, .res0H), (0xCB85, .res0L), (0xCB86, .res0MHl), (0xCB87, .res0A),
     (0xCB88, .res1B), (0xCB89, .res1C), (0xCB8A, .res1D), (0xCB8B, .res1E),
     (0xCB8C, .res1H), (0xCB8D, .res1L), (0xCB8E, .res1MHl), (0xCB8F, .res1A)] = true := by rfl

theorem test_decode_CB_9x : allDecode 16
    [(0xCB90, .res2B), (0xCB91, .res2C), (0xCB92, .res2D), (0xCB93, .res2E),
     (0xCB94, .res2H), (0xCB95, .res2L), (0xCB96, .res2MHl), (0xCB97, .res2A),
     (0xCB98, .res3B), (0xCB99, .res3C), (0xCB9A, .res3D), (0xCB9B, .res3E),
     (0xCB9C, .res3H), (0xCB9D, .res3L), (0xCB9E, .res3MHl), (0xCB9F, .res3A)] = true := by rfl

theorem test_decode_CB_Ax : allDecode 16
    [(0xCBA0, .res4B), (0xCBA1, .res4C), (0xCBA2, .res4D), (0xCBA3, .res4E),
     (0xCBA4, .res4H), (0xCBA5, .res4L), (0xCBA6, .res4MHl), (0xCBA7, .res4A),
     (0xCBA8, .res5B), (0xCBA9, .res5C), (0xCBAA, .res5D), (0xCBAB, .res5E),
     (0xCBAC, .res5H), (0xCBAD, .res5L), (0xCBAE, .res5MHl), (0xCBAF, .res5A)] = true := by rfl

theorem test_decode_CB_Bx : allDecode 16
    [(0xCBB0, .res6B), (0xCBB1, .res6C), (0xCBB2, .res6D), (0xCBB3, .res6E),
     (0xCBB4, .res6H), (0xCBB5, .res6L), (0xCBB6, .res6MHl), (0xCBB7, .res6A),
     (0xCBB8, .res7B), (0xCBB9, .res7C), (0xCBBA, .res7D), (0xCBBB, .res7E),
     (0xCBBC, .res7H), (0xCBBD, .res7L), (0xCBBE, .res7MHl), (0xCBBF, .res7A)] = true := by rfl

theorem test_decode_CB_Cx : allDecode 16
    [(0xCBC0, .set0B), (0xCBC1, .set0C), (0xCBC2, .set0D), (0xCBC3, .set0E),
     (0xCBC4, .set0H), (0xCBC5, .set0L), (0xCBC6, .set0MHl), (0xCBC7, .set0A),
     (0xCBC8, .set1B), (0xCBC9, .set1C), (0xCBCA, .set1D), (0xCBCB, .set1E),
     (0xCBCC, .set1H), (0xCBCD, .set1L), (0xCBCE, .set1MHl), (0xCBCF, .set1A)] = true := by rfl

theorem test_decode_CB_Dx : allDecode 16
    [(0xCBD0, .set2B), (0xCBD1, .set2C), (0xCBD2, .set2D), (0xCBD3, .set2E),
     (0xCBD4, .set2H), (0xCBD5, .set2L), (0xCBD6, .set2MHl), (0xCBD7, .set2A),
     (0xCBD8, .set3B), (0xCBD9, .set3C), (0xCBDA, .set3D), (0xCBDB, .set3E),
     (0xCBDC, .set3H), (0xCBDD, .set3L), (0xCBDE, .set3MHl), (0xCBDF, .set3A)] = true := by rfl

theorem test_decode_CB_Ex : allDecode 16
    [(0xCBE0, .set4B), (0xCBE1, .set4C), (0xCBE2, .set4D), (0xCBE3, .set4E),
     (0xCBE4, .set4H), (0xCBE5, .set4L), (0xCBE6, .set4MHl), (0xCBE7, .set4A),
     (0xCBE8, .set5B), (0xCBE9, .set5C), (0xCBEA, .set5D), (0xCBEB, .set5E),
     (0xCBEC, .set5H), (0xCBED, .set5L), (0xCBEE, .set5MHl), (0xCBEF, .set5A)] = true := by rfl

theorem test_decode_CB_Fx : allDecode 16
    [(0xCBF0, .set6B), (0xCBF1, .set6C), (0xCBF2, .set6D), (0xCBF3, .set6E),
     (0xCBF4, .set6H), (0xCBF5, .set6L), (0xCBF6, .set6MHl), (0xCBF7, .set6A),
     (0xCBF8, .set7B), (0xCBF9, .set7C), (0xCBFA, .set7D), (0xCBFB, .set7E),
     (0xCBFC, .set7H), (0xCBFD, .set7L), (0xCBFE, .set7MHl), (0xCBFF, .set7A)] = true := by rfl

/-! A word with bits out of the spec's encodings, in full. -/

/-- `CB 7C` is BIT 7,H (R92), in either numbering of the two bytes (log 7). -/
theorem test_decode_bit7H :
    decodeTableWord 16 0xCB7C = some .bit7H ∧ decodeTableWord 16 0x7CCB = some .bit7H :=
  ⟨rfl, rfl⟩

/-- `21 FF 9F` is LD HL,0x9FFF: the low byte first (R143). -/
theorem test_decode_d16_low_byte_first :
    decode [0x21, 0xFF, 0x9F, 0x00] = .ok (.ldHlD16 0x9FFF, [0x00]) := by rfl

/-- A byte of the eleven is rejected by name (R93). -/
theorem test_decode_undefined : decode [0xD3, 0x00] = .error (.unknownInstruction 0xD3) := by rfl

/-- A cut instruction is rejected by name. -/
theorem test_decode_truncated : decode [0xCD, 0x50] = .error .truncated := by rfl

/-! Single steps: what the spec's examples say. -/

/-- The state an instruction or a step answers. -/
def nextState : Result → Option State
  | .next t => some t
  | .fault _ => none
  | .refused _ => none

/-- One step from `s` with the three bytes at pc. -/
def stepOn (b0 b1 b2 : Byte) (s : State) : Option State := nextState (step (s.withBytesAtPc b0 b1 b2))

/-- R165: A = 0x42, B = 0x08, ADD A,B gives 0x4A and no flag. -/
theorem test_add : (stepOn 0x80 0 0 { State.reset with a := 0x42, b := 0x08 }).map
    (fun t => (t.a, t.f, t.pc)) = some (0x4A, 0x00, 1) := by rfl

/-- R165: ADD A,A with A = 0x80 gives 0x00, Z and C. -/
theorem test_add_wraps : (stepOn 0x87 0 0 { State.reset with a := 0x80 }).map
    (fun t => (t.a, t.f)) = some (0x00, 0x90) := by rfl

/-- R169: A = 0xE1, the byte at HL 0x1E, C = 1 gives 0x00, F = 0xB0. -/
theorem test_adc_memory :
    (stepOn 0x8E 0 0 ({ State.reset with a := 0xE1, h := 0xC0, f := 0x10 }.writeByte 0xC000 0x1E)).map
      (fun t => (t.a, t.f)) = some (0x00, 0xB0) := by rfl

/-- R174: SBC A,A with C = 1 gives 0xFF, F = 0x70. -/
theorem test_sbc_self : (stepOn 0x9F 0 0 { State.reset with a := 0x3B, f := 0x10 }).map
    (fun t => (t.a, t.f)) = some (0xFF, 0x70) := by rfl

/-- R186: A = 0x3C, B = 0x2F, CP A,B leaves A and gives F = 0x60. -/
theorem test_cp : (stepOn 0xB8 0 0 { State.reset with a := 0x3C, b := 0x2F }).map
    (fun t => (t.a, t.f)) = some (0x3C, 0x60) := by rfl

/-- R191: B = 0x01, F = 0x10, DEC B gives 0x00, F = 0xD0: the carry is kept. -/
theorem test_dec_keeps_carry : (stepOn 0x05 0 0 { State.reset with b := 0x01, f := 0x10 }).map
    (fun t => (t.b, t.f)) = some (0x00, 0xD0) := by rfl

/-- R201: HL = 0x8A23, BC = 0x0605, ADD HL,BC gives 0x9028, H = 1. -/
theorem test_add_hl :
    (stepOn 0x09 0 0 { State.reset with h := 0x8A, l := 0x23, b := 0x06, c := 0x05 }).map
      (fun t => (t.hl, t.f)) = some (0x9028, 0x20) := by rfl

/-- R145: SP = 0xFFF8, `F8 08` gives HL = 0x0000, F = 0x30. -/
theorem test_ld_hl_sp : (stepOn 0xF8 0x08 0 { State.reset with sp := 0xFFF8 }).map
    (fun t => (t.hl, t.f, t.sp)) = some (0x0000, 0x30, 0xFFF8) := by rfl

/-- R202: SP = 0x0001, e8 = -2 gives SP = 0xFFFF, H and C 0. -/
theorem test_add_sp_negative : (stepOn 0xE8 0xFE 0 { State.reset with sp := 0x0001 }).map
    (fun t => (t.sp, t.f)) = some (0xFFFF, 0x00) := by rfl

/-- R146: `08 00 C1` with HL = 0xBEEF stores EF then BE. -/
theorem test_store_hl : (stepOn 0x08 0x00 0xC1 { State.reset with h := 0xBE, l := 0xEF }).map
    (fun t => (t.readByte 0xC100, t.readByte 0xC101, t.pc)) = some (0xEF, 0xBE, 3) := by rfl

/-- R147: SP = 0xFFFE, BC = 0x1234, PUSH BC. -/
theorem test_push : (stepOn 0xC5 0 0 { State.reset with b := 0x12, c := 0x34 }).map
    (fun t => (t.readByte 0xFFFD, t.readByte 0xFFFC, t.sp)) = some (0x12, 0x34, 0xFFFC) := by rfl

/-- R149: POP AF of a low byte 0xFF gives F = 0xF0. -/
theorem test_pop_af :
    (stepOn 0xF1 0 0 (({ State.reset with sp := 0xC000 }.writeByte 0xC000 0xFF).writeByte 0xC001 0x12)).map
      (fun t => (t.a, t.f, t.sp)) = some (0x12, 0xF0, 0xC002) := by rfl

/-- R222: L = 0x80, C = 0, RL L gives 0x00, F = 0x90. -/
theorem test_rl : (stepOn 0xCB 0x15 0 { State.reset with l := 0x80 }).map
    (fun t => (t.l, t.f, t.pc)) = some (0x00, 0x90, 2) := by rfl

/-- R216: A = 0x85, RLCA gives 0x0B, F = 0x10. -/
theorem test_rlca : (stepOn 0x07 0 0 { State.reset with a := 0x85 }).map
    (fun t => (t.a, t.f)) = some (0x0B, 0x10) := by rfl

/-- R251: H = 0x80, F = 0x10, BIT 7,H gives F = 0x30. -/
theorem test_bit : (stepOn 0xCB 0x7C 0 { State.reset with h := 0x80, f := 0x10 }).map
    (fun t => (t.h, t.f)) = some (0x80, 0x30) := by rfl

/-- R256: the byte at HL 0xFF, RES 3,(HL) gives 0xF7. -/
theorem test_res_memory : (stepOn 0xCB 0x9E 0 ({ State.reset with h := 0xC0 }.writeByte 0xC000 0xFF)).map
    (fun t => t.readByte 0xC000) = some 0xF7 := by rfl

/-- R271: `CD 50 01` at 0x0200 pushes 0x0203 and goes to 0x0150. -/
theorem test_call : (stepOn 0xCD 0x50 0x01 { State.reset with pc := 0x0200 }).map
    (fun t => (t.readByte 0xFFFD, t.readByte 0xFFFC, t.sp, t.pc)) =
      some (0x02, 0x03, 0xFFFC, 0x0150) := by rfl

/-- R269: JR at 0x0000 with -16 goes to 0xFFF2. -/
theorem test_jr_wraps : (stepOn 0x18 0xF0 0 State.reset).map (fun t => t.pc) = some 0xFFF2 := by rfl

/-- R276: RETI pops 0x1235 and sets IME. -/
theorem test_reti :
    (stepOn 0xD9 0 0 (({ State.reset with sp := 0xCFFE }.writeByte 0xCFFE 0x35).writeByte 0xCFFF 0x12)).map
      (fun t => (t.pc, t.sp, t.ime)) = some (0x1235, 0xD000, true) := by rfl

/-- R292: 0x7D after an addition gives 0x83. -/
theorem test_daa : (stepOn 0x27 0 0 { State.reset with a := 0x7D }).map
    (fun t => (t.a, t.f)) = some (0x83, 0x00) := by rfl

/-- R297: `10 00` at 0x0200 gives pc = 0x0202, HALTED = 1. -/
theorem test_stop : (stepOn 0x10 0 0 { State.reset with pc := 0x0200 }).map
    (fun t => (t.pc, t.halted)) = some (0x0202, true) := by rfl

/-- R311: an undefined byte is recorded with its address, and pc stays. -/
theorem test_unknown_instruction : (stepOn 0xD3 0 0 { State.reset with pc := 0x0200 }).map
    (fun t => (t.fault, t.pc)) = some (some (.unknownInstruction 0xD3 0x0200), 0x0200) := by rfl

/-- R314: CALL with SP = 0 latches StackFault, and pc stays. -/
theorem test_stack_fault : (stepOn 0xCD 0x50 0x01 { State.reset with sp := 0, pc := 0x0200 }).map
    (fun t => (t.fault, t.pc, t.sp)) = some (some .stackFault, 0x0200, 0) := by rfl

/-- R314: with SP = 1 the push wraps without a fault. -/
theorem test_push_at_one : (stepOn 0xC5 0 0 { State.reset with sp := 1, pc := 0x0200, b := 0x12, c := 0x34 }).map
    (fun t => (t.fault, t.sp, t.readByte 0x0000, t.readByte 0xFFFF)) =
      some (none, 0xFFFF, 0x12, 0x34) := by rfl

/-- A state in which interrupts k and 4 are requested and enabled, HALTED, pc = 0x0151. -/
def pendingState (k : Fin 5) : State :=
  (({ State.reset with pc := 0x0151, ime := true, halted := true }.writeByte 0xFFFF 0x1F).writeByte
    0xFF0F (bitMask (k.castLE (by decide)) ||| 0x10))

/-- R324: the lowest request is served: its bit is cleared, pc pushed, IME and HALTED cleared. -/
theorem test_interrupt_entry : (nextState (step (pendingState 2))).map
    (fun t => (t.pc, t.readByte 0xFF0F, t.readByte 0xFFFD, t.readByte 0xFFFC, t.ime, t.halted)) =
      some (0x0050, 0x10, 0x01, 0x51, false, false) := by rfl

/-- The word of the opcode table placed by `withFetchWord` is the one the next step runs. -/
theorem test_withFetchWord :
    step (State.reset.withFetchWord 8 0x37) = exec .scf (State.reset.withFetchWord 8 0x37) ∧
      step (State.reset.withFetchWord 16 0xCB37) =
        exec .swapA (State.reset.withFetchWord 16 0xCB37) := ⟨rfl, rfl⟩

/-! Witnesses: for every statement with hypotheses, a state and operands that meet them. -/

/-- `LD (HL),B` at pc 0x0100, HL the address after it, B the opcode of SCF. -/
def storeState : State :=
  ({ State.reset with pc := 0x0100, h := 0x01, l := 0x01, b := 0x37 }).writeByte 0x0100 0x70

/-- `LD BC,0x1234` with its first byte at 0xFFFF. -/
def topState : State :=
  (({ State.reset with pc := 0xFFFF }.writeByte 0xFFFF 0x01).writeByte 0x0000 0x34).writeByte
    0x0001 0x12

/-- PUSH BC at pc with SP = 0. -/
def emptyStackState : State := ({ State.reset with sp := 0, pc := 0x0200 }).writeByte 0x0200 0xC5

/-- An undefined byte at pc. -/
def undefinedState : State := State.reset.writeByte 0x0000 0xFD

/-- Parameters that differ from the spec's: STOP of one byte. -/
def shortStop : Config := { Config.default with stopLen := 1 }

/-- R297 with `P_STOP_LEN` = 1: pc is one byte on. -/
theorem test_stop_of_one_byte :
    (nextState (stepWith shortStop (State.reset.withBytesAtPc 0x10 0 0))).map
      (fun t => (t.pc, t.halted)) = some (0x0001, true) := by rfl

theorem witness_DecodeOfEncodeIsTheInstruction :
    (Instr.ldAMA16 0xFFFF).wellFormed = true ∧ Instr.stop.wellFormed = true ∧
      0 < shortStop.stopLen := ⟨rfl, rfl, by decide⟩

theorem witness_EncodeOfDecodedBytesIsTheBytes :
    decodeBytes 0xCB 0x37 0x00 = .ok .swapA ∧ decodeBytes 0x10 0xFF 0x00 = .ok .stop :=
  ⟨rfl, rfl⟩

theorem witness_UndefinedFirstByteLatchesFault :
    (0xFD : Byte) ∈ undefinedBytes ∧ (0xFE : Byte) ∉ undefinedBytes ∧
      Executes Config.default undefinedState ∧
      undefinedState.readByte undefinedState.pc ∈ undefinedBytes :=
  ⟨by decide, by decide, ⟨rfl, rfl, rfl⟩, by decide⟩

theorem witness_StepRunsTheDecodedInstruction :
    Executes Config.default storeState ∧ DecodesAtPc storeState .ldMHlB ∧
      Instr.ldMHlB ≠ .stop := ⟨⟨rfl, rfl, rfl⟩, rfl, nofun⟩

theorem witness_StepRunsTheEncodedInstruction :
    (Instr.ldBcD16 0x1234).wellFormed = true ∧ Executes Config.default topState ∧
      ∀ (k : Nat) (b : Byte), (encodeWith Config.default (.ldBcD16 0x1234))[k]? = some b →
        topState.readByte (topState.pc + BitVec.ofNat 16 k) = b := by
  refine ⟨rfl, ⟨rfl, rfl, rfl⟩, ?_⟩
  intro k b h
  match k with
  | 0 => cases h; rfl
  | 1 => cases h; rfl
  | 2 => cases h; rfl
  | k + 3 => cases h

theorem witness_FaultedAndIdleStepsChangeNothing :
    ({ State.reset with fault := some .stackFault } : State).fault ≠ none ∧
      ({ State.reset with halted := true } : State).fault = none ∧
      ({ State.reset with halted := true } : State).halted = true ∧
      ({ State.reset with halted := true } : State).takesInterrupt Config.default = false ∧
      ({ State.reset with halted := true } : State).quiescent Config.default = true ∧
      ({ State.reset with halted := true, ime := true } : State).quiescent Config.default = false ∧
      ({ State.reset with halted := true, ime := true } : State).quiescentAlone Config.default =
        true :=
  ⟨by decide, rfl, rfl, rfl, rfl, rfl, rfl⟩

theorem witness_InterruptEntry :
    (∀ k : Fin 5, Config.default.irqDispatch = true ∧ (pendingState k).fault = none ∧
      (pendingState k).ime = true ∧ ((pendingState k).readByte 0xFFFF).getLsbD k = true ∧
      ((pendingState k).readByte 0xFF0F).getLsbD k = true ∧
      (∀ j < k.val, (((pendingState k).readByte 0xFFFF).getLsbD j &&
        ((pendingState k).readByte 0xFF0F).getLsbD j) = false) ∧
      (pendingState k).sp ≠ 0 ∧ (pendingState k).mem.wf = true) ∧
    ({ pendingState 4 with sp := 0 } : State).sp = 0 := ⟨by decide +kernel, rfl⟩

theorem witness_DispatchOffNeverTakesAnInterrupt :
    let cfg : Config := { Config.default with irqDispatch := false }
    cfg.irqDispatch = false ∧ (pendingState 0).fault = none ∧ (pendingState 0).halted = true ∧
      storeState.fault = none ∧ storeState.halted = false ∧ DecodesAtPc storeState .ldMHlB :=
  ⟨rfl, rfl, rfl, rfl, rfl, rfl⟩

theorem witness_HaltEndsOnlyByInterruptEntry :
    (pendingState 3).halted = true ∧
      stepWith Config.default (pendingState 3) = .next (pendingState 3).interruptEntry ∧
      (pendingState 3).interruptEntry.halted = false := ⟨rfl, rfl, rfl⟩

theorem witness_EveryStepKeepsLowNibbleZero :
    State.reset.f &&& 0x0F = 0 ∧
      stepWith Config.default State.reset = .next (State.reset.advance 1) ∧
      exec .popAf State.reset = .next (popPair .af State.reset) := ⟨rfl, rfl, rfl⟩

theorem witness_EveryStepKeepsMemoryCanonical :
    storeState.mem.wf = true ∧
      stepExt Config.default [(0xFF44, 0x90)] storeState =
        .next (storeByte 0x0101 0x37 1 (storeState.writeByte 0xFF44 0x90)) := ⟨rfl, rfl⟩

theorem witness_ResetState : Memory.wf [(0x0000, 0x31), (0xFFFF, 0x1F)] = true := rfl

theorem witness_FaultingStepChangesOnlyFault :
    emptyStackState.fault = none ∧
      stepWith Config.default emptyStackState = .next (emptyStackState.raise .stackFault) ∧
      (emptyStackState.raise .stackFault).fault ≠ none := ⟨rfl, rfl, by decide⟩

theorem witness_StackFaultOnlyFromPushAtZero :
    emptyStackState.fault = none ∧ emptyStackState.sp = 0 ∧ emptyStackState.halted = false ∧
      DecodesAtPc emptyStackState .pushBc ∧ Pushes emptyStackState .pushBc ∧
      ({ pendingState 0 with sp := 0 } : State).takesInterrupt Config.default = true :=
  ⟨rfl, rfl, rfl, rfl, .inl ⟨.bc, rfl⟩, rfl⟩

theorem witness_WhoWritesImeAndHalted :
    exec .nop State.reset = .next (State.reset.advance 1) := rfl

theorem witness_PcAdvancesByTheLength :
    Instr.pushBc.wellFormed = true ∧ ¬ TransfersControl .pushBc ∧ State.reset.sp ≠ 0 ∧
      0 < shortStop.stopLen ∧ execWith shortStop .stop State.reset = .next (halt 1 State.reset) ∧
      execWith Config.default .pushBc State.reset = .next (pushPair .bc State.reset) := by
  refine ⟨rfl, ?_, by decide, by decide, rfl, rfl⟩
  rintro (h | h | h | ⟨_, h⟩ | ⟨_, h⟩ | ⟨_, h⟩ | ⟨cc, _, h⟩ | ⟨cc, _, h⟩ | ⟨cc, _, h⟩ | ⟨cc, h⟩ | ⟨y, h⟩)
  all_goals first | cases h | (cases cc <;> cases h) | (fin_cases y <;> cases h)

theorem witness_ReadGivesTheLastWrite :
    storeState.mem.wf = true ∧
      ([(0xC000, 0x01), (0xC000, 0x02), (0xC001, 0x03)] : ExtWrites) =
        [(0xC000, 0x01)] ++ (0xC000, 0x02) :: [(0xC001, 0x03)] ∧
      (∀ w ∈ ([(0xC001, 0x03)] : ExtWrites), w.1 ≠ 0xC000) := by
  refine ⟨rfl, rfl, fun w h => ?_⟩
  cases h with
  | head => decide
  | tail _ h => cases h

/-- At 0xFFFF, the next address being 0x0000; a push that wraps; POP HL. -/
theorem witness_WordsAreLittleEndian :
    ({ State.reset with sp := 1, mem := [(0xFFFF, 0x12)] } : State).mem.wf = true ∧
      ({ State.reset with sp := 1, mem := [(0xFFFF, 0x12)] } : State).sp ≠ 0 ∧
      RegStk.hl ≠ .af ∧ (0x1234 : Word).toNat = 256 * (0x12 : Byte).toNat + (0x34 : Byte).toNat :=
  ⟨rfl, by decide, by decide, rfl⟩

theorem witness_EqualReadsAreEqualMemories :
    storeState.mem.wf = true ∧ (storeState.writeByte 0xC000 0x00).mem.wf = true ∧
      ∀ a, storeState.mem.read a = (storeState.writeByte 0xC000 0x00).mem.read a :=
  ⟨rfl, rfl, fun _ => rfl⟩

theorem witness_ExternalRequestWakesTheCore :
    let s : State := { State.reset with ime := true, halted := true }.writeByte 0xFFFF 0x01
    Config.default.irqDispatch = true ∧ s.mem.wf = true ∧ s.fault = none ∧ s.halted = true ∧
      s.ime = true ∧ s.sp ≠ 0 ∧ s.readByte 0xFFFF &&& (0x01 : Byte) &&& 0x1F ≠ 0 :=
  ⟨rfl, rfl, rfl, rfl, rfl, by decide, by decide⟩

theorem witness_StoreIsSeenByTheNextFetch :
    storeState.mem.wf = true ∧ storeState.fault = none ∧ storeState.halted = false ∧
      storeState.ime = false ∧ DecodesAtPc storeState (Instr.ldMemReg .b) ∧
      storeState.hl = storeState.pc + 1 ∧
      decodeBytes (storeState.getR8 .b) (storeState.readByte (storeState.pc + 2))
        (storeState.readByte (storeState.pc + 3)) = .ok .scf :=
  ⟨rfl, rfl, rfl, rfl, rfl, rfl, rfl⟩

theorem witness_StepResultAndCycleTable :
    stepWith Config.default State.reset = .next (State.reset.advance 1) ∧
      (Instr.callA16 0x0150).wellFormed = true := ⟨rfl, rfl⟩

/-- The premise of a read back: a canonical memory. -/
theorem witness_StoreAtHl : storeState.mem.wf = true := rfl

theorem witness_StoreHlAbsolute : storeState.mem.wf = true ∧ topState.mem.wf = true := ⟨rfl, rfl⟩

theorem witness_IncDecByte : Operand8.memHl = .memHl → storeState.mem.wf = true := fun _ => rfl

theorem witness_SetAndResOneBit :
    (Operand8.memHl = .memHl → storeState.mem.wf = true) ∧ (0 : Nat) < 8 ∧ (7 : Nat) < 8 :=
  ⟨fun _ => rfl, by decide, by decide⟩

theorem witness_IncDecPair : Reg16.hl ≠ .sp := by decide

theorem witness_LoadAFromAddress :
    ∀ (i : Instr) (addr len : Word),
      (i, addr, len) ∈ [(.ldAMBc, (pair storeState.b storeState.c : Word), (1 : Word)),
        (.ldAMDe, pair storeState.d storeState.e, 1), (.ldAMA16 0xFFFF, 0xFFFF, 3),
        (.ldhAMC, 0xFF00, 1), (.ldhAMA8 0xFF, 0xFFFF, 2)] →
      (i = .ldAMBc ∧ addr = pair storeState.b storeState.c ∧ len = 1) ∨
      (i = .ldAMDe ∧ addr = pair storeState.d storeState.e ∧ len = 1) ∨
      (i = .ldAMA16 addr ∧ len = 3) ∨
      (i = .ldhAMC ∧ addr = BitVec.ofNat 16 (0xFF00 + storeState.c.toNat) ∧ len = 1) ∨
      (∃ a8 : Byte, i = .ldhAMA8 a8 ∧ addr = BitVec.ofNat 16 (0xFF00 + a8.toNat) ∧ len = 2) := by
  intro i addr len h
  simp only [List.mem_cons, Prod.mk.injEq, List.not_mem_nil, or_false] at h
  rcases h with ⟨rfl, rfl, rfl⟩ | ⟨rfl, rfl, rfl⟩ | ⟨rfl, rfl, rfl⟩ | ⟨rfl, rfl, rfl⟩ | ⟨rfl, rfl, rfl⟩
  · exact .inl ⟨rfl, rfl, rfl⟩
  · exact .inr (.inl ⟨rfl, rfl, rfl⟩)
  · exact .inr (.inr (.inl ⟨rfl, rfl⟩))
  · exact .inr (.inr (.inr (.inl ⟨rfl, rfl, rfl⟩)))
  · exact .inr (.inr (.inr (.inr ⟨0xFF, rfl, rfl, rfl⟩)))

theorem witness_StoreAToAddress :
    (Instr.ldMBcA = .ldMBcA ∧ (0x3700 : Word) = pair storeState.b storeState.c) ∧
      (Instr.ldMDeA = .ldMDeA ∧ (0x0000 : Word) = pair storeState.d storeState.e) ∧
      (0xFF00 : Word) = BitVec.ofNat 16 (0xFF00 + storeState.c.toNat) ∧
      (∃ a8 : Byte, Instr.ldhMA8A 0xFF = .ldhMA8A a8 ∧
        (0xFFFF : Word) = BitVec.ofNat 16 (0xFF00 + a8.toNat)) ∧ storeState.mem.wf = true :=
  ⟨⟨rfl, rfl⟩, ⟨rfl, rfl⟩, rfl, ⟨0xFF, rfl, rfl⟩, rfl⟩

theorem witness_HlPostAdjust :
    (Instr.ldMHlDecA = .ldMHlDecA ∧ (0xFFFF : Word) = -1) ∧
      (Instr.ldAMHlInc = .ldAMHlInc ∧ (1 : Word) = 1) ∧ storeState.mem.wf = true :=
  ⟨⟨rfl, rfl⟩, ⟨rfl, rfl⟩, rfl⟩

theorem witness_StackPointerPlusDisplacement :
    (0xFF80 : Word).toNat =
        (if (0x80 : Byte).toNat < 0x80 then (0x80 : Byte).toNat else 0xFF00 + (0x80 : Byte).toNat) ∧
      (0x007F : Word).toNat =
        (if (0x7F : Byte).toNat < 0x80 then (0x7F : Byte).toNat else 0xFF00 + (0x7F : Byte).toNat) := by
  decide

theorem witness_PushStoresHighThenLow :
    State.reset.sp ≠ 0 ∧ State.reset.mem.wf = true ∧ emptyStackState.sp = 0 ∧
      ({ State.reset with sp := 1 } : State).sp ≠ 0 := by decide

theorem witness_PopLoadsLowThenHigh : RegStk.hl ≠ .af := by decide

theorem witness_PushThenPopRestores : storeState.inv = true ∧ storeState.sp ≠ 0 :=
  ⟨rfl, by decide⟩

theorem witness_AddSetsResultAndFlags :
    AluForm .add .addAB storeState 0x37 1 ∧ AluForm .add .addAMHl storeState 0x00 1 ∧
      AluForm .add (.addAD8 0xFF) storeState 0xFF 2 :=
  ⟨.inl ⟨.reg .b, rfl, rfl, rfl⟩, .inl ⟨.memHl, rfl, rfl, rfl⟩, .inr ⟨rfl, rfl⟩⟩

theorem witness_AdcSetsResultAndFlags :
    AluForm .adc .adcAB storeState 0x37 1 ∧ AluForm .adc (.adcAD8 0xFF) storeState 0xFF 2 :=
  ⟨.inl ⟨.reg .b, rfl, rfl, rfl⟩, .inr ⟨rfl, rfl⟩⟩

/-- A = 0x00 less 0xFF less the carry is 0x00 (R174). -/
theorem witness_SubSbcCpSetResultAndBorrows :
    let s : State := { State.reset with f := 0x10 }
    AluForm .sbc (.sbcAD8 0xFF) s 0xFF 2 ∧
      1 = (if AluOp.sbc = .sbc then (s.flag .c).toNat else 0) ∧
      ((0x00 : Byte).toNat : Int) = ((s.a.toNat : Int) - (0xFF : Byte).toNat - 1) % 256 ∧
      AluForm .cp .cpAA s 0x00 1 :=
  ⟨.inr ⟨rfl, rfl⟩, rfl, rfl, .inl ⟨.reg .a, rfl, rfl, rfl⟩⟩

theorem witness_LogicSetsResultAndFlags :
    AluForm .and .andAMHl storeState 0x00 1 ∧ AluForm .or .orAB storeState 0x37 1 ∧
      AluForm .xor (.xorAD8 0x8A) storeState 0x8A 2 :=
  ⟨.inl ⟨.memHl, rfl, rfl, rfl⟩, .inl ⟨.reg .b, rfl, rfl, rfl⟩, .inr ⟨rfl, rfl⟩⟩

theorem witness_RotatesShiftsAndSwap :
    ShiftForm .rlc (.reg .a) .rlca 1 ∧ ShiftForm .rl (.reg .a) .rla 1 ∧
      ShiftForm .rrc (.reg .a) .rrca 1 ∧ ShiftForm .rr (.reg .a) .rra 1 ∧
      ShiftForm .swap .memHl .swapMHl 2 ∧ storeState.mem.wf = true :=
  ⟨.inl ⟨rfl, rfl, .inl ⟨rfl, rfl⟩⟩, .inl ⟨rfl, rfl, .inr (.inl ⟨rfl, rfl⟩)⟩,
    .inl ⟨rfl, rfl, .inr (.inr (.inl ⟨rfl, rfl⟩))⟩,
    .inl ⟨rfl, rfl, .inr (.inr (.inr ⟨rfl, rfl⟩))⟩, .inr ⟨rfl, rfl⟩, rfl⟩

theorem witness_RelativeAndHlJumps :
    ((0xFF82 : Word).toNat : Int) = ((State.reset.pc.toNat : Int) + 2 +
        (if (0x80 : Byte).toNat < 0x80 then ((0x80 : Byte).toNat : Int)
          else ((0x80 : Byte).toNat : Int) - 256)) % 65536 ∧
      ((0x0081 : Word).toNat : Int) = ((State.reset.pc.toNat : Int) + 2 +
        (if (0x7F : Byte).toNat < 0x80 then ((0x7F : Byte).toNat : Int)
          else ((0x7F : Byte).toNat : Int) - 256)) % 65536 := by decide

theorem witness_Calls :
    (Instr.callZA16 0x3000 = .callZA16 0x3000 ∧
        ({ State.reset with f := 0x80 } : State).flag .z = true) ∧
      (Instr.callCA16 0x3000 = .callCA16 0x3000 ∧ State.reset.flag .c = false) ∧
      State.reset.sp ≠ 0 ∧ State.reset.mem.wf = true ∧ emptyStackState.sp = 0 :=
  ⟨⟨rfl, rfl⟩, ⟨rfl, rfl⟩, by decide, rfl, rfl⟩

theorem witness_Restarts :
    State.reset.sp ≠ 0 ∧ State.reset.mem.wf = true ∧ emptyStackState.sp = 0 := by decide

theorem witness_Returns :
    (0x0070 : Word).toNat =
        256 * (({ storeState with sp := 0x0100 } : State).readByte 0x0101).toNat +
          (({ storeState with sp := 0x0100 } : State).readByte 0x0100).toNat ∧
      (Instr.retNz = .retNz ∧ storeState.flag .z = false) ∧
      (Instr.retC = .retC ∧ storeState.flag .c = false) ∧
      exec .reti (pendingState 2) = .next (pendingState 2).returnFromInterrupt ∧
      Config.default.irqDispatch = true ∧ (pendingState 2).fault = none ∧
      (pendingState 2).returnFromInterrupt.pendingInterrupts ≠ 0 :=
  ⟨rfl, ⟨rfl, rfl⟩, ⟨rfl, rfl⟩, rfl, rfl, rfl, by decide +kernel⟩

theorem witness_HaltAndDi :
    exec .di (pendingState 0) = .next (setIme false (pendingState 0)) := rfl

/-- A = 0x9A after an addition: both corrections; A = 0x0F after 0x10 - 0x01: one (R292). -/
theorem witness_DecimalAdjust :
    let s : State := { State.reset with a := 0x9A }
    let t : State := { State.reset with a := 0x0F, f := 0x60 }
    (true = (s.flag .h || (!s.flag .n && decide (s.a.toNat % 16 > 9))) ∧
      true = (s.flag .c || (!s.flag .n && decide (s.a.toNat > 0x99)))) ∧
    (true = (t.flag .h || (!t.flag .n && decide (t.a.toNat % 16 > 9))) ∧
      false = (t.flag .c || (!t.flag .n && decide (t.a.toNat > 0x99)))) := by decide

theorem witness_DecimalArithmeticIsRight :
    (99 : Nat) < 100 ∧ ({ State.reset with a := 0x99 } : State).a = bcd 99 := by decide

end Sys2Proof.Tests
end

section
/-! PROOFS. The low nibble of F (R21): what each shared operation does with it, what any effect of an
instruction can do with it, and that every step keeps it zero. -/
namespace Sys2Proof.Machine

/-! The operations that branch, and the two that write F whole. -/

/-- A push keeps F where what follows it does; the stack fault keeps it anyway (R141). -/
theorem State.f_push16Then (s : State) (v : Word) {after : State → State}
    (h : ∀ t, (after t).f = t.f) : (s.push16Then v after).f = s.f := by
  by_cases hs : s.sp = 0
  · rw [State.push16Then_zero hs, State.raise_f]
  · rw [State.push16Then_ne hs, h, State.pushWord_f]

@[simp] theorem f_pushPair (r : RegStk) (s : State) : (pushPair r s).f = s.f :=
  s.f_push16Then _ fun t => t.advance_f 1

@[simp] theorem f_call (a : Word) (len : Nat) (s : State) : (call a len s).f = s.f :=
  s.f_push16Then _ fun t => t.jump_f a

@[simp] theorem State.f_returnToCaller (s : State) : s.returnToCaller.f = s.f := rfl

/-- A conditional instruction keeps F where its effect does (R265). -/
theorem f_ifCond (cc : Cond) (len : Nat) {effect : State → State} {s : State}
    (h : (effect s).f = s.f) : (ifCond cc len effect s).f = s.f := by
  unfold ifCond
  split
  · exact h
  · exact s.advance_f len

/-- Interrupt entry keeps F (R324). -/
@[simp] theorem State.f_interruptEntry (s : State) : s.interruptEntry.f = s.f := by
  by_cases hs : s.sp = 0
  · rw [State.interruptEntry_zero hs, State.raise_f]
  · simp [State.interruptEntry_ne hs]

/-- The mask of POP AF clears the low nibble (R149). -/
theorem low_and_F0 (v : Byte) : v &&& 0xF0 &&& 0x0F = 0 := by
  rw [BitVec.and_assoc]
  exact BitVec.and_zero

/-- An ALU operation keeps the low nibble of F (the logic operations) or clears it (the others). -/
theorem low_aluApply (op : AluOp) (v : Byte) (len : Nat) (s : State) :
    s.LowNibbleKept (aluApply op v len s) ∨ (aluApply op v len s).f &&& 0x0F = 0 := by
  unfold aluApply setAluFlags State.LowNibbleKept
  split
  · right; simp
  · left; split <;> simp

/-- POP keeps the low nibble of F but for POP AF, which clears it (R148, R149). -/
theorem low_popPair (r : RegStk) (s : State) :
    s.LowNibbleKept (popPair r s) ∨ (popPair r s).f &&& 0x0F = 0 := by
  cases r
  case af => exact .inr (low_and_F0 _)
  all_goals exact .inl rfl

/-! Any effect, any instruction, any step. -/

/-- Whatever an instruction does, it keeps the low nibble of F or clears it. -/
theorem low_of_effect {s t : State} (h : Effect s t) : s.LowNibbleKept t ∨ t.f &&& 0x0F = 0 := by
  cases h
  case aluApply op v len => exact low_aluApply op v len s
  case popPair r => exact low_popPair r s
  all_goals left; unfold State.LowNibbleKept
  -- F itself is kept: loads, stores, 16-bit counting, single bits, control transfer.
  case storeByte | storeThenHl | loadThenHl | storeHl | jump | jumpRelative | ret | reti | nop |
      halt | setIme => rfl
  case loadReg | loadPair | incPair | decPair | setBit | resetBit =>
    simp [loadReg, loadPair, incPair, decPair, setBit, resetBit]
  case pushPair r => rw [f_pushPair]
  case call a len => rw [f_call]
  case jumpIf cc a => rw [f_ifCond cc 3 (s.jump_f a)]
  case jumpRelativeIf cc e8 => rw [f_ifCond cc 2 (s.jump_f _)]
  case callIf cc a => rw [f_ifCond cc 3 (f_call a 3 s)]
  case retIf cc => rw [f_ifCond cc 1 s.f_returnToCaller]
  -- F is written flag by flag, and no flag write touches the low nibble (`low_putFlag`).
  case loadHlSpPlus | addSp => simp [loadHlSpPlus, addSp, flagsOfSpPlus]
  case incOperand | decOperand | addHl | shiftOperand | testBit =>
    simp [incOperand, decOperand, addHl, shiftOperand, testBit]
  case decimalAdjust | complementA | complementCarry | setCarry =>
    simp [decimalAdjust, complementA, complementCarry, setCarry]

/-- So an effect keeps a low nibble that is zero (R21). -/
theorem low_zero_of_effect {s t : State} (h : Effect s t) (hs : s.f &&& 0x0F = 0) :
    t.f &&& 0x0F = 0 := by
  obtain hkept | hzero := low_of_effect h
  · exact Eq.trans hkept hs
  · exact hzero

/-- A step keeps F, but for the one that executes an instruction (R320). -/
theorem stepWith_low_zero {cfg : Config} {s t : State} (hs : s.f &&& 0x0F = 0)
    (h : stepWith cfg s = .next t) : t.f &&& 0x0F = 0 := by
  obtain ⟨-, rfl⟩ | ⟨-, -, rfl⟩ | ⟨-, -, -, rfl⟩ | ⟨-, hnext⟩ := stepWith_cases h
  · exact hs
  · rwa [State.f_interruptEntry]
  · exact hs
  · obtain ⟨i, -, hexec⟩ | ⟨b, rfl⟩ := executeNext_cases hnext
    · exact low_zero_of_effect (execWith_effect hexec) hs
    · exact hs

/-- POP AF loads F from the byte at SP, masked (R149). -/
theorem f_popPair_af (s : State) : (popPair .af s).f = s.readByte s.sp &&& 0xF0 := by
  simp [popPair, State.setStk, State.popValue_eq]

/-- Settles O12: any effect keeps the low nibble or clears it, and a step is nothing, interrupt entry,
a fault alone, or one effect. -/
theorem everyStepKeepsLowNibbleZero : Obligations.EveryStepKeepsLowNibbleZero := by
  refine ⟨fun _ _ _ => stepWith_low_zero, fun _ _ _ hs h => low_zero_of_effect (exec_effect h) hs,
    fun s fl v => ⟨s.flag_setFlag_same fl v, fun p hp => ?_, low_putFlag s.f fl v⟩, ?_⟩
  · exact s.flag_setFlag_ne (List.ne_of_not_mem_cons hp) v
  · intro s t h
    cases h
    exact f_popPair_af s

end Sys2Proof.Machine
end

section
/-! PROOFS. Reads after a list of external writes (R50, R63): the writes are made in order, so the
last write to an address decides what is read there, and an address nothing writes keeps its byte. -/
namespace Sys2Proof.Machine

/-! External writes, write by write. -/

@[simp] theorem State.external_nil (s : State) : s.external [] = s := rfl

@[simp] theorem State.external_cons (s : State) (w : Word × Byte) (ws : ExtWrites) :
    s.external (w :: ws) = (s.writeByte w.1 w.2).external ws := rfl

theorem State.external_append (s : State) (early late : ExtWrites) :
    s.external (early ++ late) = (s.external early).external late := List.foldl_append

/-- External writes keep memory canonical (log 11). -/
theorem State.wf_external {s : State} (h : s.mem.wf = true) (ws : ExtWrites) :
    (s.external ws).mem.wf = true := by
  induction ws generalizing s with
  | nil => exact h
  | cons w ws ih => exact ih (Memory.wf_write h w.1 w.2)

/-- An address that no external write names keeps its byte. -/
theorem State.readByte_external_ne (s : State) {ws : ExtWrites} {a : Word}
    (h : ∀ w ∈ ws, w.1 ≠ a) : (s.external ws).readByte a = s.readByte a := by
  induction ws generalizing s with
  | nil => rfl
  | cons w ws ih =>
    obtain ⟨hw, hws⟩ := List.forall_mem_cons.1 h
    calc (s.external (w :: ws)).readByte a
        = (s.writeByte w.1 w.2).readByte a := ih _ hws
      _ = s.readByte a := s.readByte_writeByte_ne hw.symm w.2

/-- The last external write to an address is what is read there. -/
theorem State.readByte_external_last {s : State} (hm : s.mem.wf = true) (early : ExtWrites)
    (a : Word) (v : Byte) {late : ExtWrites} (h : ∀ w ∈ late, w.1 ≠ a) :
    (s.external (early ++ (a, v) :: late)).readByte a = v := by
  rw [State.external_append, State.external_cons, State.readByte_external_ne _ h,
    State.readByte_writeByte _ (State.wf_external hm early), if_pos rfl]

/-- Settles O21: the list of writes is split at the last write to the address; nothing after it
touches the byte. -/
theorem readGivesTheLastWrite : Obligations.ReadGivesTheLastWrite := by
  refine fun s ws a hm => ⟨?_, s.readByte_external_ne⟩
  rintro early late v rfl hlate
  exact State.readByte_external_last hm early a v hlate

end Sys2Proof.Machine
end

section
/-! PROOFS. The 8-bit loads and stores (R110 to R129): what each single update leaves alone, how the
frames of consecutive updates compose, and the whole result of each shared operation. -/
namespace Sys2Proof.Machine

/-! Frames: one for each update, and their composition. -/

/-- What two updates leave alone together: all but what either may change. -/
theorem State.Frame.trans {s t u : State} {regs regs' : List Reg8} {flags flags' : List Flag}
    {addrs addrs' : List Word} (h : s.Frame t regs flags addrs) (h' : t.Frame u regs' flags' addrs') :
    s.Frame u (regs ++ regs') (flags ++ flags') (addrs ++ addrs') := by
  obtain ⟨hreg, hflag, ⟨hime, hhalted, hfault⟩, hmem⟩ := h
  obtain ⟨hreg', hflag', ⟨hime', hhalted', hfault'⟩, hmem'⟩ := h'
  exact ⟨
    fun r hr => (hreg' r (mt (List.mem_append_right regs) hr)).trans
      (hreg r (mt (List.mem_append_left regs') hr)),
    fun fl hfl => (hflag' fl (mt (List.mem_append_right flags) hfl)).trans
      (hflag fl (mt (List.mem_append_left flags') hfl)),
    ⟨hime'.trans hime, hhalted'.trans hhalted, hfault'.trans hfault⟩,
    fun a ha => (hmem' a (mt (List.mem_append_right addrs) ha)).trans
      (hmem a (mt (List.mem_append_left addrs') ha))⟩

/-- Writing a register changes that register alone (R9). -/
theorem State.frame_setR8 (s : State) (r : Reg8) (v : Byte) : s.Frame (s.setR8 r v) [r] [] [] := by
  refine ⟨fun q hq => ?_, fun fl _ => s.flag_setR8 r v fl,
    ⟨s.setR8_ime r v, s.setR8_halted r v, s.setR8_fault r v⟩, fun a _ => s.readByte_setR8 r v a⟩
  rw [State.getR8_setR8, if_neg (List.ne_of_not_mem_cons hq)]

/-- Writing HL changes H and L alone (R22). -/
theorem State.frame_setHl (s : State) (v : Word) : s.Frame (s.setHl v) [.h, .l] [] [] :=
  ⟨fun _ => s.getR8_setHl v, fun _ _ => rfl, ⟨rfl, rfl, rfl⟩, fun _ _ => rfl⟩

/-- "A write replaces exactly that one byte" (R50). -/
theorem State.frame_writeByte (s : State) (a : Word) (v : Byte) :
    s.Frame (s.writeByte a v) [] [] [a] :=
  ⟨fun q _ => s.getR8_writeByte a v q, fun _ _ => rfl, ⟨rfl, rfl, rfl⟩,
    fun _ hx => s.readByte_writeByte_ne (List.ne_of_not_mem_cons hx) v⟩

/-- Moving pc past an instruction changes nothing that a frame speaks of. -/
theorem State.frame_advance (s : State) (len : Nat) : s.Frame (s.advance len) [] [] [] :=
  ⟨fun q _ => s.getR8_advance len q, fun _ _ => rfl, ⟨rfl, rfl, rfl⟩, fun _ _ => rfl⟩

/-! The four shared operations of the family, each with everything it does. -/

/-- `r8[y] <- v`, `pc <- next`, and nothing else. -/
theorem loadReg_result (r : Reg8) (v : Byte) (len : Nat) (s : State) :
    (loadReg r v len s).getR8 r = v ∧ (loadReg r v len s).pc = s.pc + BitVec.ofNat 16 len ∧
      (loadReg r v len s).sp = s.sp ∧ s.LowNibbleKept (loadReg r v len s) ∧
      s.Frame (loadReg r v len s) [r] [] [] := by
  refine ⟨?_, ?_, ?_, ?_, (s.frame_setR8 r v).trans (State.frame_advance _ len)⟩
  · simp [loadReg]
  · simp [loadReg, State.nextPc]
  · simp [loadReg]
  · simp [loadReg, State.LowNibbleKept]

/-- `MemWrite(a, 1, v)`, `pc <- next`, and nothing else. -/
theorem storeByte_result (a : Word) (v : Byte) (len : Nat) (s : State) :
    (s.mem.wf = true → (storeByte a v len s).readByte a = v) ∧
      (storeByte a v len s).pc = s.pc + BitVec.ofNat 16 len ∧
      (storeByte a v len s).sp = s.sp ∧ s.LowNibbleKept (storeByte a v len s) ∧
      s.Frame (storeByte a v len s) [] [] [a] := by
  refine ⟨fun hm => ?_, rfl, rfl, rfl, (s.frame_writeByte a v).trans (State.frame_advance _ len)⟩
  simp [storeByte, State.readByte_writeByte s hm]

/-- The store is made at the old HL; HL is `newHl` afterwards. -/
theorem storeThenHl_result (newHl : Word) (s : State) :
    (s.mem.wf = true → (storeThenHl newHl s).readByte s.hl = s.a) ∧
      (storeThenHl newHl s).hl = newHl ∧ (storeThenHl newHl s).pc = s.pc + 1 ∧
      (storeThenHl newHl s).sp = s.sp ∧ s.LowNibbleKept (storeThenHl newHl s) ∧
      s.Frame (storeThenHl newHl s) [.h, .l] [] [s.hl] := by
  refine ⟨fun hm => ?_, ?_, rfl, rfl, rfl,
    ((s.frame_writeByte s.hl s.a).trans (State.frame_setHl _ newHl)).trans (State.frame_advance _ 1)⟩
  · simp [storeThenHl, State.readByte_writeByte s hm]
  · simp [storeThenHl]

/-- The byte loaded is the one at the old HL; HL is `newHl` afterwards. -/
theorem loadThenHl_result (newHl : Word) (s : State) :
    (loadThenHl newHl s).a = s.readByte s.hl ∧
      (loadThenHl newHl s).hl = newHl ∧ (loadThenHl newHl s).pc = s.pc + 1 ∧
      (loadThenHl newHl s).sp = s.sp ∧ s.LowNibbleKept (loadThenHl newHl s) ∧
      s.Frame (loadThenHl newHl s) [.a, .h, .l] [] [] := by
  refine ⟨rfl, ?_, rfl, rfl, rfl, ((s.frame_setR8 .a (s.readByte s.hl)).trans
    (State.frame_setHl _ newHl)).trans (State.frame_advance _ 1)⟩
  simp [loadThenHl]

/-- Settles O28: the three families are one shared operation, `loadReg`, and its source is read in
the state before. -/
theorem loadRegister : Obligations.LoadRegister :=
  ⟨fun s dst r => ⟨_, exec_ldRegReg dst r s, loadReg_result dst (s.getR8 r) 1 s⟩,
    fun s dst v => ⟨_, exec_ldRegImm dst v s, loadReg_result dst v 2 s⟩,
    fun s dst => ⟨_, exec_ldRegMem dst s, loadReg_result dst (s.readByte s.hl) 1 s⟩⟩

/-- Settles O29: both families are the shared operation `storeByte` at HL. -/
theorem storeAtHl : Obligations.StoreAtHl :=
  ⟨fun s r => ⟨_, exec_ldMemReg r s, storeByte_result s.hl (s.getR8 r) 1 s⟩,
    fun s v => ⟨_, rfl, storeByte_result s.hl v 2 s⟩⟩

/-- The zero page does not wrap: the address is the number `0xFF00 + offset` (R85, R122). -/
theorem zeroPage_eq (offset : Byte) : zeroPage offset = BitVec.ofNat 16 (0xFF00 + offset.toNat) := by
  rw [BitVec.ofNat_add, BitVec.ofNat_toNat]
  rfl

/-- Settles O30: each form is `loadReg` into A of the byte at its own address. -/
theorem loadAFromAddress : Obligations.LoadAFromAddress := by
  rintro s i addr len (⟨rfl, rfl, rfl⟩ | ⟨rfl, rfl, rfl⟩ | ⟨rfl, rfl⟩ | ⟨rfl, rfl, rfl⟩ |
    ⟨a8, rfl, rfl, rfl⟩)
  · exact ⟨_, rfl, loadReg_result .a (s.readByte s.bc) 1 s⟩
  · exact ⟨_, rfl, loadReg_result .a (s.readByte s.de) 1 s⟩
  · exact ⟨_, rfl, loadReg_result .a (s.readByte addr) 3 s⟩
  · rw [← zeroPage_eq]
    exact ⟨_, rfl, loadReg_result .a (s.readByte (zeroPage s.c)) 1 s⟩
  · rw [← zeroPage_eq]
    exact ⟨_, rfl, loadReg_result .a (s.readByte (zeroPage a8)) 2 s⟩

/-- Settles O32: each form is a store or a load at the old HL with the new HL as its argument; one
lower is `-1` added, modulo 65536. -/
theorem hlPostAdjust : Obligations.HlPostAdjust := by
  constructor
  · rintro s i delta (⟨rfl, rfl⟩ | ⟨rfl, rfl⟩)
    · exact ⟨_, rfl, storeThenHl_result (s.hl + 1) s⟩
    · rw [← BitVec.sub_eq_add_neg]
      exact ⟨_, rfl, storeThenHl_result (s.hl - 1) s⟩
  · rintro s i delta (⟨rfl, rfl⟩ | ⟨rfl, rfl⟩)
    · exact ⟨_, rfl, loadThenHl_result (s.hl + 1) s⟩
    · rw [← BitVec.sub_eq_add_neg]
      exact ⟨_, rfl, loadThenHl_result (s.hl - 1) s⟩

end Sys2Proof.Machine
end

section
/-! PROOFS. The 16-bit register loads, PUSH and POP (R143, R144, R147, R148): the frame of a write of
a pair and of a stack move, the two halves of a stack register, and the whole result of each shared
operation. -/
namespace Sys2Proof.Machine

/-! Frames. -/

/-- Moving pc past the instruction keeps any frame. -/
theorem State.Frame.advance {s t : State} {regs : List Reg8} {flags : List Flag} {addrs : List Word}
    (h : s.Frame t regs flags addrs) (len : Nat) : s.Frame (t.advance len) regs flags addrs := by
  simpa using h.trans (t.frame_advance len)

/-- Writing a pair writes its two registers, one after the other (R22); writing SP writes none. -/
theorem State.frame_setR16 (s : State) (r : Reg16) (v : Word) :
    s.Frame (s.setR16 r v) (pairRegs r) [] [] := by
  cases r with
  | bc => exact (s.frame_setR8 .b (hi v)).trans (State.frame_setR8 _ .c (lo v))
  | de => exact (s.frame_setR8 .d (hi v)).trans (State.frame_setR8 _ .e (lo v))
  | hl => exact s.frame_setHl v
  | sp => exact ⟨fun q _ => s.getR8_setR16_sp v q, fun _ _ => rfl, ⟨rfl, rfl, rfl⟩, fun _ _ => rfl⟩

/-- BC, DE and HL are written from the stack as they are written anywhere (R148); AF alone is not. -/
theorem State.frame_setStk (s : State) {r : RegStk} (hr : r ≠ .af) (v : Word) :
    s.Frame (s.setStk r v) (stkRegs r) [] [] := by
  cases r with
  | bc => exact s.frame_setR16 .bc v
  | de => exact s.frame_setR16 .de v
  | hl => exact s.frame_setR16 .hl v
  | af => exact absurd rfl hr

/-- A push changes SP and the two bytes below it alone (R141). -/
theorem State.frame_pushWord (s : State) (v : Word) :
    s.Frame (s.pushWord v) [] [] [s.sp - 1, s.sp - 2] :=
  ⟨fun q _ => s.getR8_pushWord v q, fun fl _ => s.flag_pushWord v fl, ⟨rfl, rfl, rfl⟩,
    fun _ => s.readByte_pushWord_ne v⟩

/-- A pop by itself moves SP alone (R142). -/
theorem State.frame_popped (s : State) : s.Frame s.popped [] [] [] :=
  ⟨fun q _ => s.getR8_popped q, fun _ _ => rfl, ⟨rfl, rfl, rfl⟩, fun _ _ => rfl⟩

/-! The two halves of a stack register. -/

@[simp] theorem hi_getStk (s : State) (r : RegStk) : hi (s.getStk r) = stkHigh s r := by
  cases r <;> exact hi_pair _ _

@[simp] theorem lo_getStk (s : State) (r : RegStk) : lo (s.getStk r) = stkLow s r := by
  cases r <;> exact lo_pair _ _

@[simp] theorem stkHigh_advance (s : State) (len : Nat) (r : RegStk) :
    stkHigh (s.advance len) r = stkHigh s r := by cases r <;> rfl

@[simp] theorem stkLow_advance (s : State) (len : Nat) (r : RegStk) :
    stkLow (s.advance len) r = stkLow s r := by cases r <;> rfl

@[simp] theorem stkHigh_setStk (s : State) (r : RegStk) (v : Word) :
    stkHigh (s.setStk r v) r = hi v := by cases r <;> rfl

/-- The low half of AF is masked (R149); that of each other pair is the low byte whole. -/
theorem stkLow_setStk (s : State) {r : RegStk} (hr : r ≠ .af) (v : Word) :
    stkLow (s.setStk r v) r = lo v := by
  cases r with
  | af => exact absurd rfl hr
  | bc | de | hl => rfl

/-- F is written by a pop of AF alone (R148, R149). -/
theorem State.setStk_f (s : State) {r : RegStk} (hr : r ≠ .af) (v : Word) :
    (s.setStk r v).f = s.f := by
  cases r with
  | af => exact absurd rfl hr
  | bc | de | hl => rfl

/-! The three shared operations, each with everything it does. -/

/-- `r16[p] <- v`, `pc <- next`, and nothing else (R143, R144). -/
theorem loadPair_result (r : Reg16) (v : Word) (len : Nat) (s : State) :
    (loadPair r v len s).getR16 r = v ∧ (loadPair r v len s).pc = s.pc + BitVec.ofNat 16 len ∧
      (r ≠ .sp → (loadPair r v len s).sp = s.sp) ∧ s.LowNibbleKept (loadPair r v len s) ∧
      s.Frame (loadPair r v len s) (pairRegs r) [] [] := by
  refine ⟨?_, ?_, fun hr => s.sp_setR16_ne hr v, ?_, (s.frame_setR16 r v).advance len⟩
  · simp [loadPair]
  · simp [loadPair, State.nextPc]
  · simp [loadPair, State.LowNibbleKept]

/-- With room on the stack PUSH is the two stores of R141 and `pc <- next`. -/
theorem pushPair_ne {s : State} (hs : s.sp ≠ 0) (r : RegStk) :
    pushPair r s = (s.pushWord (s.getStk r)).advance 1 := State.push16Then_ne hs _ _

/-- With SP = 0 PUSH only faults, pc included (R147). -/
theorem pushPair_zero {s : State} (hs : s.sp = 0) (r : RegStk) :
    pushPair r s = s.raise .stackFault := State.push16Then_zero hs _ _

/-- PUSH with room on the stack: the high byte at SP - 1, the low byte at SP - 2, SP two lower, and
nothing else (R147). -/
theorem pushPair_result {s : State} (hs : s.sp ≠ 0) (r : RegStk) :
    (s.mem.wf = true → (pushPair r s).readByte (s.sp - 1) = stkHigh s r ∧
        (pushPair r s).readByte (s.sp - 2) = stkLow s r) ∧
      (pushPair r s).sp = s.sp - 2 ∧ (pushPair r s).pc = s.pc + 1 ∧
      s.LowNibbleKept (pushPair r s) ∧ s.Frame (pushPair r s) [] [] [s.sp - 1, s.sp - 2] := by
  rw [pushPair_ne hs]
  refine ⟨fun hm => ⟨?_, ?_⟩, ?_, rfl, rfl, (s.frame_pushWord _).advance 1⟩
  · simp [State.readByte_pushWord hm]
  · simp [State.readByte_pushWord hm]
  · simp

/-- POP of BC, DE or HL: the low register from SP, the high register from SP + 1, SP two higher, and
nothing else (R148). -/
theorem popPair_result {r : RegStk} (hr : r ≠ .af) (s : State) :
    stkLow (popPair r s) r = s.readByte s.sp ∧ stkHigh (popPair r s) r = s.readByte (s.sp + 1) ∧
      (popPair r s).sp = s.sp + 2 ∧ (popPair r s).pc = s.pc + 1 ∧ s.LowNibbleKept (popPair r s) ∧
      s.Frame (popPair r s) (stkRegs r) [] [] := by
  refine ⟨?_, ?_, ?_, ?_, ?_, (s.frame_popped.trans (State.frame_setStk _ hr s.popValue)).advance 1⟩
  · simp [popPair, stkLow_setStk _ hr, State.popValue_eq]
  · simp [popPair, State.popValue_eq]
  · simp [popPair]
  · simp [popPair, State.nextPc]
  · simp [popPair, State.LowNibbleKept, State.setStk_f _ hr]

/-- Settles O36: the stack check decides between the fault alone and the two stores with pc moved. -/
theorem pushStoresHighThenLow : Obligations.PushStoresHighThenLow := by
  refine fun s rr => ⟨fun hs => ⟨_, exec_push rr s, pushPair_result hs rr⟩, fun hs => ?_⟩
  rw [exec_push, pushPair_zero hs]
  rfl

/-- Settles O33: both forms are the shared operation `loadPair`; `LD SP,HL` is the load of HL into
SP. -/
theorem Load16.loadPair : Obligations.LoadPair := by
  refine ⟨fun s rr d16 => ⟨_, exec_ldPairImm rr d16 s, loadPair_result rr d16 3 s⟩, fun s => ?_⟩
  obtain ⟨hsp, hpc, -, hlow, hframe⟩ := loadPair_result .sp s.hl 1 s
  exact ⟨_, rfl, hsp, hpc, hlow, hframe⟩

/-- Settles O37: a pop reads the word at SP, moves SP and writes the pair. -/
theorem popLoadsLowThenHigh : Obligations.PopLoadsLowThenHigh :=
  fun s rr hr => ⟨_, exec_pop rr s, popPair_result hr s⟩

end Sys2Proof.Machine
end

section
/-! PROOFS. The 8-bit arithmetic and logic (R160 to R163): what an ALU operation does to each part
of the state, whichever of the eight it is, and what the helpers `add8` and `logic8` compute. -/
namespace Sys2Proof.Machine

/-! The flags of an ALU operation, which its rule writes whole or one by one. -/

/-- Writing the flags changes F alone. -/
theorem setAluFlags_eq (op : AluOp) (r : AluResult) (s : State) :
    setAluFlags op r s = { s with f := (setAluFlags op r s).f } := by
  unfold setAluFlags
  split <;> rfl

@[simp] theorem setAluFlags_a (op : AluOp) (r : AluResult) (s : State) :
    (setAluFlags op r s).a = s.a := by rw [setAluFlags_eq]

@[simp] theorem setAluFlags_pc (op : AluOp) (r : AluResult) (s : State) :
    (setAluFlags op r s).pc = s.pc := by rw [setAluFlags_eq]

@[simp] theorem setAluFlags_sp (op : AluOp) (r : AluResult) (s : State) :
    (setAluFlags op r s).sp = s.sp := by rw [setAluFlags_eq]

/-- Both ways of writing the flags leave the same four; only F's low nibble tells them apart. -/
theorem flag_setAluFlags (op : AluOp) (r : AluResult) (s : State) (fl : Flag) :
    (setAluFlags op r s).flag fl = (s.setFlags r.z r.n r.h r.c).flag fl := by
  unfold setAluFlags
  split
  · rw [State.flag_setWholeF, State.flag_setFlags]
  · rfl

/-- A new F changes no register, no control bit and no byte of memory. -/
theorem State.frame_withF (s : State) (f : Byte) :
    s.Frame { s with f := f } [] [.z, .n, .h, .c] [] :=
  ⟨fun q _ => by cases q <;> rfl, fun fl hfl => absurd (by cases fl <;> decide) hfl,
    ⟨rfl, rfl, rfl⟩, fun _ _ => rfl⟩

theorem frame_setAluFlags (op : AluOp) (r : AluResult) (s : State) :
    s.Frame (setAluFlags op r s) [] [.z, .n, .h, .c] [] := by
  rw [setAluFlags_eq]
  exact s.frame_withF _

/-! One ALU operation, and what it leaves. -/

/-- CP is no exception to "A, then the flags, then pc" if it is read as storing back the A it
found. -/
theorem aluApply_eq (op : AluOp) (v : Byte) (len : Nat) (s : State) :
    aluApply op v len s =
      (setAluFlags op (aluCompute op s.a v (s.flag .c))
        (s.setR8 .a (if op = .cp then s.a else (aluCompute op s.a v (s.flag .c)).res))).advance
          len := by
  unfold aluApply
  split <;> rfl

theorem aluApply_a (op : AluOp) (v : Byte) (len : Nat) (s : State) :
    (aluApply op v len s).a = if op = .cp then s.a else (aluCompute op s.a v (s.flag .c)).res := by
  simp [aluApply_eq]

/-- The flags are those computed from A, the operand and the carry before (R161 to R163). -/
theorem aluApply_flags (op : AluOp) (v : Byte) (len : Nat) (s : State) :
    (aluApply op v len s).flag .z = (aluCompute op s.a v (s.flag .c)).z ∧
      (aluApply op v len s).flag .n = (aluCompute op s.a v (s.flag .c)).n ∧
      (aluApply op v len s).flag .h = (aluCompute op s.a v (s.flag .c)).h ∧
      (aluApply op v len s).flag .c = (aluCompute op s.a v (s.flag .c)).c := by
  simp [aluApply_eq, flag_setAluFlags]

/-- The arithmetic operations write F whole, its low nibble 0 (R165 to R176, R186 to R188). -/
theorem low_aluApply_arithmetic {op : AluOp} (hop : writesWholeF op = true) (v : Byte) (len : Nat)
    (s : State) : (aluApply op v len s).f &&& 0x0F = 0 := by
  simp [aluApply_eq, setAluFlags, hop]

/-- The logic operations write flag by flag, so the low nibble stays (R21, R177 to R185). -/
theorem low_aluApply_logic {op : AluOp} (hop : writesWholeF op = false) (v : Byte) (len : Nat)
    (s : State) : s.LowNibbleKept (aluApply op v len s) := by
  simp [aluApply_eq, setAluFlags, hop, State.LowNibbleKept]

/-- The laws of the family (R160): pc is past the instruction, and nothing else changes but A and
the flags. -/
theorem aluApply_kept (op : AluOp) (v : Byte) (len : Nat) (s : State) :
    (aluApply op v len s).pc = s.pc + BitVec.ofNat 16 len ∧ (aluApply op v len s).sp = s.sp ∧
      s.Frame (aluApply op v len s) [.a] [.z, .n, .h, .c] [] := by
  rw [aluApply_eq]
  refine ⟨?_, ?_, ((s.frame_setR8 .a _).trans (frame_setAluFlags op _ _)).advance len⟩
  · simp [State.nextPc]
  · simp

/-- Each of an operation's nine forms is the one shared operation, on its own operand and with its
own length. -/
theorem exec_of_aluForm {op : AluOp} {i : Instr} {s : State} {v : Byte} {len : Word}
    (h : AluForm op i s v len) :
    ∃ n : Nat, len = BitVec.ofNat 16 n ∧ exec i s = .next (aluApply op v n s) := by
  obtain ⟨o, rfl, rfl, rfl⟩ | ⟨rfl, rfl⟩ := h
  · exact ⟨1, rfl, exec_alu op o s⟩
  · exact ⟨2, rfl, exec_aluImm op v s⟩

/-! The two helpers, and the two statements. -/

/-- `add8` is the sum modulo 256, its carry-in taking part in H and C (R161). -/
theorem add8_result (a b : Byte) (cin : Bool) :
    (add8 a b cin).res.toNat = (a.toNat + b.toNat + cin.toNat) % 256 ∧
      ((add8 a b cin).z = true ↔ (a.toNat + b.toNat + cin.toNat) % 256 = 0) ∧
      (add8 a b cin).n = false ∧
      ((add8 a b cin).h = true ↔ a.toNat % 16 + b.toNat % 16 + cin.toNat > 0x0F) ∧
      ((add8 a b cin).c = true ↔ a.toNat + b.toNat + cin.toNat > 0xFF) := by
  have hres : (add8 a b cin).res.toNat = (a.toNat + b.toNat + cin.toNat) % 256 :=
    BitVec.toNat_ofNat ..
  refine ⟨hres, ?_, rfl, decide_eq_true_iff, decide_eq_true_iff⟩
  calc (add8 a b cin).z = true
    _ ↔ (add8 a b cin).res = 0 := beq_iff_eq
    _ ↔ (add8 a b cin).res.toNat = 0 := BitVec.toNat_inj.symm
    _ ↔ _ := by rw [hres]

/-- The three logic operations share their flags: `logic8` of the combined byte, H set by AND alone
(R163). -/
theorem aluCompute_logic {op : AluOp} (hop : op = .and ∨ op = .or ∨ op = .xor) (a v : Byte)
    (cin : Bool) : aluCompute op a v cin =
      logic8 (if op = .and then a &&& v else if op = .or then a ||| v else a ^^^ v)
        (decide (op = .and)) := by
  obtain rfl | rfl | rfl := hop <;> rfl

/-- Settles O40: each form is `aluApply`, whose result and flags for ADD are `add8` without a
carry-in. -/
theorem addSetsResultAndFlags : Obligations.AddSetsResultAndFlags := by
  intro i s v len hform
  obtain ⟨n, rfl, hexec⟩ := exec_of_aluForm hform
  obtain ⟨hz, hn, hh, hc⟩ := aluApply_flags .add v n s
  obtain ⟨hres, hzero, hsub, hhalf, hcarry⟩ := add8_result s.a v false
  refine ⟨_, hexec, ?_, ?_, hn.trans hsub, ?_, ?_, low_aluApply_arithmetic rfl v n s,
    aluApply_kept .add v n s⟩
  · rw [aluApply_a]
    exact hres
  · rw [hz]
    exact hzero
  · rw [hh]
    exact hhalf
  · rw [hc]
    exact hcarry

/-- Settles O43: each form is `aluApply`, whose result and flags for a logic operation are `logic8`
of the operands' bitwise combination. -/
theorem logicSetsResultAndFlags : Obligations.LogicSetsResultAndFlags := by
  intro op i s v len hop hform
  obtain ⟨n, rfl, hexec⟩ := exec_of_aluForm hform
  obtain ⟨hz, hn, hh, hc⟩ := aluApply_flags op v n s
  have hcp : op ≠ .cp := by rintro rfl; simp at hop
  have hflagwise : writesWholeF op = false := by obtain rfl | rfl | rfl := hop <;> rfl
  have ha := aluApply_a op v n s
  rw [if_neg hcp] at ha
  rw [aluCompute_logic hop] at ha hz hn hh hc
  refine ⟨_, hexec, fun k _ => ?_, ?_, hn, hh, hc, low_aluApply_logic hflagwise v n s,
    aluApply_kept op v n s⟩
  · rw [ha]
    simp only [logic8]
    split_ifs
    · exact BitVec.getLsbD_and
    · exact BitVec.getLsbD_or
    · exact BitVec.getLsbD_xor
  · rw [hz, ha]
    exact beq_iff_eq

end Sys2Proof.Machine
end

section
/-! PROOFS. The 16-bit arithmetic (R200, R201, R203, R204): what ADD HL,rr does to each part of the
state, and INC and DEC of a pair as loads of the pair's own value, one up or one down. -/
namespace Sys2Proof.Machine

/-- Writing a flag changes that flag alone (R21). -/
theorem State.frame_setFlag (s : State) (fl : Flag) (v : Bool) :
    s.Frame (s.setFlag fl v) [] [fl] [] :=
  ⟨fun q _ => s.getR8_setFlag fl v q, fun _ hp => s.flag_setFlag_ne (List.ne_of_not_mem_cons hp) v,
    ⟨rfl, rfl, rfl⟩, fun _ _ => rfl⟩

/-! ADD HL,rr. -/

@[simp] theorem addHl_hl (r : Reg16) (s : State) : (addHl r s).hl = s.hl + s.getR16 r := by
  simp [addHl]

/-- N is cleared; H and C are the carries out of bits 11 and 15 of the operands before (R201). -/
theorem addHl_flags (r : Reg16) (s : State) :
    (addHl r s).flag .n = false ∧ (addHl r s).flag .h = half16 s.hl (s.getR16 r) ∧
      (addHl r s).flag .c = carry16 s.hl (s.getR16 r) := by
  simp [addHl]

/-- pc is past the instruction, and nothing else changes but HL, N, H and C (R201). -/
theorem addHl_kept (r : Reg16) (s : State) :
    (addHl r s).pc = s.pc + 1 ∧ (addHl r s).sp = s.sp ∧ s.LowNibbleKept (addHl r s) ∧
      s.Frame (addHl r s) [.h, .l] [.n, .h, .c] [] := by
  refine ⟨rfl, rfl, by simp [addHl, State.LowNibbleKept], ?_⟩
  exact ((((s.frame_setHl _).trans (State.frame_setFlag _ .n false)).trans
    (State.frame_setFlag _ .h (half16 s.hl (s.getR16 r)))).trans
      (State.frame_setFlag _ .c (carry16 s.hl (s.getR16 r)))).advance 1

/-- Settles O45: each form is `addHl`, whose sum and carries are those of the unbounded addition. -/
theorem addHlPair : Obligations.AddHlPair := by
  intro s rr
  obtain ⟨hn, hh, hc⟩ := addHl_flags rr s
  refine ⟨_, exec_addHlPair rr s, ?_, hn, ?_, ?_, addHl_kept rr s⟩
  · rw [addHl_hl]
    exact BitVec.toNat_add ..
  · rw [hh]
    exact decide_eq_true_iff
  · rw [hc]
    exact decide_eq_true_iff

/-! INC rr and DEC rr. -/

/-- Counting up writes the pair's successor to it, as a load of one byte's length would (R203). -/
theorem incPair_eq (r : Reg16) (s : State) : incPair r s = loadPair r (s.getR16 r + 1) 1 s := rfl

/-- Counting down writes the pair's predecessor to it in the same way (R204). -/
theorem decPair_eq (r : Reg16) (s : State) : decPair r s = loadPair r (s.getR16 r - 1) 1 s := rfl

/-- Going one down modulo 65536 is going 65535 up. -/
theorem toNat_sub_one_word (v : Word) : (v - 1).toNat = (v.toNat + 65535) % 65536 := by
  rw [Nat.add_comm]
  exact BitVec.toNat_sub ..

/-- Settles O46: both are loads of the pair, which keep F and, but for the pair, everything else. -/
theorem incDecPair : Obligations.IncDecPair := by
  refine fun s rr => ⟨⟨_, exec_incPair rr s, ?_⟩, ⟨_, exec_decPair rr s, ?_⟩⟩
  · obtain ⟨hval, hpc, hsp, hkept⟩ := loadPair_result rr (s.getR16 rr + 1) 1 s
    rw [incPair_eq, hval]
    exact ⟨BitVec.toNat_add .., hsp, hpc, hkept⟩
  · obtain ⟨hval, hpc, hsp, hkept⟩ := loadPair_result rr (s.getR16 rr - 1) 1 s
    rw [decPair_eq, hval]
    exact ⟨toNat_sub_one_word _, hsp, hpc, hkept⟩

end Sys2Proof.Machine
end

section
/-! PROOFS. Bit test, set and clear (R251 to R256): what BIT does to each part of the state, a write
of an operand position with everything it does, and the bits of a byte with one bit set or cleared. -/
namespace Sys2Proof.Machine

/-! BIT b. -/

/-- Z is the complement of the bit tested, N is cleared, H is set (R251). -/
theorem testBit_flags (b : Fin 8) (o : Operand8) (s : State) :
    (testBit b o s).flag .z = (!(s.getOperand o).getLsbD b) ∧ (testBit b o s).flag .n = false ∧
      (testBit b o s).flag .h = true := by
  simp [testBit]

/-- pc is past the two bytes, and nothing else changes but Z, N and H: no operand is stored
(R252). -/
theorem testBit_kept (b : Fin 8) (o : Operand8) (s : State) :
    (testBit b o s).pc = s.pc + 2 ∧ (testBit b o s).sp = s.sp ∧ s.LowNibbleKept (testBit b o s) ∧
      s.Frame (testBit b o s) [] [.z, .n, .h] [] := by
  refine ⟨rfl, rfl, by simp [testBit, State.LowNibbleKept], ?_⟩
  exact (((s.frame_setFlag .z _).trans (State.frame_setFlag _ .n false)).trans
    (State.frame_setFlag _ .h true)).advance 2

/-- Settles O48: each form is `testBit`, which writes three flags and stores nothing. -/
theorem bitTestsOneBit : Obligations.BitTestsOneBit := by
  intro s b o
  obtain ⟨hz, hn, hh⟩ := testBit_flags b o s
  refine ⟨_, exec_bit b o s, ?_, hn, hh, testBit_kept b o s⟩
  rw [hz, Bool.not_eq_true']

/-! SET b and RES b. -/

/-- Writing an operand position changes its register, or the byte at HL, alone (R86). -/
theorem State.frame_setOperand (s : State) (o : Operand8) (v : Byte) :
    s.Frame (s.setOperand o v) (destRegs o) [] (destAddrs s o) := by
  cases o with
  | reg r => exact s.frame_setR8 r v
  | memHl => exact s.frame_writeByte s.hl v

@[simp] theorem State.getOperand_advance (s : State) (len : Nat) (o : Operand8) :
    (s.advance len).getOperand o = s.getOperand o :=
  State.getOperand_congr (s.getR8_advance len) rfl o

/-- The operand position is `v`, `pc <- next`, and nothing else. -/
theorem setOperand_advance_result (o : Operand8) (v : Byte) (len : Nat) (s : State) :
    ((o = .memHl → s.mem.wf = true) → ((s.setOperand o v).advance len).getOperand o = v) ∧
      ((s.setOperand o v).advance len).pc = s.pc + BitVec.ofNat 16 len ∧
      ((s.setOperand o v).advance len).sp = s.sp ∧
      s.LowNibbleKept ((s.setOperand o v).advance len) ∧
      s.Frame ((s.setOperand o v).advance len) (destRegs o) [] (destAddrs s o) := by
  refine ⟨fun hm => ?_, ?_, ?_, ?_, (s.frame_setOperand o v).advance len⟩
  · rw [State.getOperand_advance, State.getOperand_setOperand s o v hm]
  · simp [State.nextPc]
  · simp
  · simp [State.LowNibbleKept]

/-- `getLsbD_bitMask` at a bit number below 8. -/
theorem getLsbD_bitMask_of_lt (b : Fin 8) {k : Nat} (hk : k < 8) :
    (bitMask b).getLsbD k = decide (k = b.val) :=
  (getLsbD_bitMask b ⟨k, hk⟩).trans (decide_eq_decide.2 Fin.ext_iff)

/-- `v | (1 << b)` is `v` with bit `b` 1 (R253). -/
theorem getLsbD_or_bitMask (v : Byte) (b : Fin 8) {k : Nat} (hk : k < 8) :
    (v ||| bitMask b).getLsbD k = if k = b.val then true else v.getLsbD k := by
  rw [BitVec.getLsbD_or, getLsbD_bitMask_of_lt b hk]
  split_ifs with h <;> simp [h]

/-- `v & ~(1 << b)` is `v` with bit `b` 0 (R255). -/
theorem getLsbD_and_not_bitMask (v : Byte) (b : Fin 8) {k : Nat} (hk : k < 8) :
    (v &&& ~~~ bitMask b).getLsbD k = if k = b.val then false else v.getLsbD k := by
  rw [BitVec.getLsbD_and, BitVec.getLsbD_not, getLsbD_bitMask_of_lt b hk]
  split_ifs with h <;> simp [h, hk]

/-- Settles O49: SET and RES each write the operand position once, with the mask of bit `b` put in
or taken out. -/
theorem setAndResOneBit : Obligations.SetAndResOneBit := by
  intro s b o v
  cases v with
  | true =>
    obtain ⟨hread, hkept⟩ := setOperand_advance_result o (s.getOperand o ||| bitMask b) 2 s
    refine ⟨_, exec_set b o s, fun hm k hk => ?_, hkept⟩
    rw [setBit, hread hm]
    exact getLsbD_or_bitMask _ b hk
  | false =>
    obtain ⟨hread, hkept⟩ := setOperand_advance_result o (s.getOperand o &&& ~~~ bitMask b) 2 s
    refine ⟨_, exec_res b o s, fun hm k hk => ?_, hkept⟩
    rw [resetBit, hread hm]
    exact getLsbD_and_not_bitMask _ b hk

end Sys2Proof.Machine
end

section
/-! PROOFS. Absolute jumps, calls and returns (R266, R267, R271, R272, R274 to R276): what a
conditional instruction does when its condition holds and when not, the whole result of CALL, the
state a return leaves, and the step boundary after RETI. -/
namespace Sys2Proof.Machine

/-! Conditions (R265). -/

theorem State.cond_nz (s : State) : s.cond .nz = true ↔ s.flag .z = false := by
  simp [State.cond]

theorem State.cond_nc (s : State) : s.cond .nc = true ↔ s.flag .c = false := by
  simp [State.cond]

theorem ifCond_taken {cc : Cond} {s : State} (h : s.cond cc = true) (len : Nat)
    (effect : State → State) : ifCond cc len effect s = effect s := if_pos h

theorem ifCond_untaken {cc : Cond} {s : State} (h : s.cond cc = false) (len : Nat)
    (effect : State → State) : ifCond cc len effect s = s.advance len :=
  if_neg (Bool.eq_false_iff.1 h)

/-- A conditional instruction whose condition, read off the flags, holds. -/
theorem taken_cases (form : Cond → Instr) {i : Instr} {s : State}
    (h : (i = form .nz ∧ s.flag .z = false) ∨ (i = form .z ∧ s.flag .z = true) ∨
      (i = form .nc ∧ s.flag .c = false) ∨ (i = form .c ∧ s.flag .c = true)) :
    ∃ cc, i = form cc ∧ s.cond cc = true := by
  obtain ⟨hi, hfl⟩ | ⟨hi, hfl⟩ | ⟨hi, hfl⟩ | ⟨hi, hfl⟩ := h
  · exact ⟨.nz, hi, s.cond_nz.2 hfl⟩
  · exact ⟨.z, hi, hfl⟩
  · exact ⟨.nc, hi, s.cond_nc.2 hfl⟩
  · exact ⟨.c, hi, hfl⟩

/-- A conditional instruction whose condition, read off the flags, is false. -/
theorem untaken_cases (form : Cond → Instr) {i : Instr} {s : State}
    (h : (i = form .nz ∧ s.flag .z = true) ∨ (i = form .z ∧ s.flag .z = false) ∨
      (i = form .nc ∧ s.flag .c = true) ∨ (i = form .c ∧ s.flag .c = false)) :
    ∃ cc, i = form cc ∧ s.cond cc = false := by
  obtain ⟨hi, hfl⟩ | ⟨hi, hfl⟩ | ⟨hi, hfl⟩ | ⟨hi, hfl⟩ := h
  · exact ⟨.nz, hi, congrArg not hfl⟩
  · exact ⟨.z, hi, hfl⟩
  · exact ⟨.nc, hi, congrArg not hfl⟩
  · exact ⟨.c, hi, hfl⟩

/-! JP. -/

/-- A conditional jump is a jump to its target or to the following instruction. -/
theorem ifCond_jump (cc : Cond) (len : Nat) (a : Word) (s : State) :
    ifCond cc len (fun t => t.jump a) s = s.jump (if s.cond cc then a else s.nextPc len) :=
  (apply_ite s.jump _ a (s.nextPc len)).symm

/-- `JP cc,a16`, its condition read as any equivalent proposition (R267). -/
theorem exec_jpIf_iff {cc : Cond} {s : State} {p : Prop} [Decidable p] (h : s.cond cc = true ↔ p)
    (a : Word) :
    exec (Instr.jpIf cc a) s = .next { s with pc := if p then a else s.pc + 3 } := by
  rw [exec_jpIf, ifCond_jump, if_congr h rfl rfl]
  rfl

/-- Settles O50: each `JP cc` is one jump, to a16 or past its three bytes. -/
theorem absoluteJumps : Obligations.AbsoluteJumps := fun s a16 =>
  ⟨rfl, exec_jpIf_iff s.cond_nz a16, exec_jpIf_iff (cc := .z) Iff.rfl a16,
    exec_jpIf_iff s.cond_nc a16, exec_jpIf_iff (cc := .c) Iff.rfl a16⟩

/-! CALL. -/

/-- Setting pc keeps any frame. -/
theorem State.Frame.jump {s t : State} {regs : List Reg8} {flags : List Flag} {addrs : List Word}
    (h : s.Frame t regs flags addrs) (a : Word) : s.Frame (t.jump a) regs flags addrs := by
  have hjump : t.Frame (t.jump a) [] [] [] :=
    ⟨fun q _ => t.getR8_jump a q, fun _ _ => rfl, ⟨rfl, rfl, rfl⟩, fun _ _ => rfl⟩
  simpa using h.trans hjump

/-- With room on the stack a call is the push of `next` and the jump (R271). -/
theorem call_ne {s : State} (hs : s.sp ≠ 0) (a : Word) (len : Nat) :
    call a len s = (s.pushWord (s.nextPc len)).jump a := State.push16Then_ne hs _ _

/-- With SP = 0 a call only faults, pc included (R271). -/
theorem call_zero {s : State} (hs : s.sp = 0) (a : Word) (len : Nat) :
    call a len s = s.raise .stackFault := State.push16Then_zero hs _ _

/-- A call with room on the stack: pc at the target, SP two lower, the two bytes of `next` at SP - 1
and SP - 2, and nothing else (R271, R273). -/
theorem call_result {s : State} (hs : s.sp ≠ 0) (a : Word) (len : Nat) :
    (call a len s).pc = a ∧ (call a len s).sp = s.sp - 2 ∧
      (s.mem.wf = true →
        ((call a len s).readByte (s.sp - 1)).toNat = (s.nextPc len).toNat / 256 ∧
        ((call a len s).readByte (s.sp - 2)).toNat = (s.nextPc len).toNat % 256) ∧
      s.LowNibbleKept (call a len s) ∧ s.Frame (call a len s) [] [] [s.sp - 1, s.sp - 2] := by
  rw [call_ne hs]
  refine ⟨rfl, ?_, fun hm => ⟨?_, ?_⟩, rfl, (s.frame_pushWord _).jump a⟩
  · simp
  · simp [State.readByte_pushWord hm, toNat_hi]
  · simp [State.readByte_pushWord hm, toNat_lo]

theorem exec_callIf_taken {cc : Cond} {s : State} (h : s.cond cc = true) (a : Word) :
    exec (Instr.callIf cc a) s = .next (call a 3 s) := by
  rw [exec_callIf, ifCond_taken h]

theorem exec_callIf_untaken {cc : Cond} {s : State} (h : s.cond cc = false) (a : Word) :
    exec (Instr.callIf cc a) s = .next (s.advance 3) := by
  rw [exec_callIf, ifCond_untaken h]

/-- Settles O52: CALL and each taken CALL cc are the one shared call, which pushes or faults. -/
theorem calls : Obligations.Calls := by
  refine fun s a16 i => ⟨fun htaken => ?_, fun huntaken => ?_⟩
  · have hcall : exec i s = .next (call a16 3 s) := by
      obtain rfl | hcond := htaken
      · rfl
      · obtain ⟨cc, rfl, hcc⟩ := taken_cases (Instr.callIf · a16) hcond
        exact exec_callIf_taken hcc a16
    refine ⟨fun hs => ⟨_, hcall, call_result hs a16 3⟩, fun hs => ?_⟩
    rw [hcall, call_zero hs]
    rfl
  · obtain ⟨cc, rfl, hcc⟩ := untaken_cases (Instr.callIf · a16) huntaken
    exact exec_callIf_untaken hcc a16

/-! RET and RETI. -/

/-- The word a pop returns, in terms of the two bytes at SP (R56, R142). -/
theorem State.popValue_eq_of_toNat {s : State} {v : Word}
    (h : v.toNat = 256 * (s.readByte (s.sp + 1)).toNat + (s.readByte s.sp).toNat) :
    s.popValue = v := by
  apply BitVec.eq_of_toNat_eq
  rw [State.popValue_eq, toNat_pair, h, Nat.mul_comm]

/-- A return moves pc and SP and nothing else (R274). -/
theorem State.returnToCaller_eq (s : State) :
    s.returnToCaller = { s with pc := s.popValue, sp := s.sp + 2 } :=
  congrArg (fun sp => { s with pc := s.popValue, sp := sp }) (Word.add_one_add_one s.sp)

/-- RETI is the return with interrupts enabled (R276). -/
theorem State.returnFromInterrupt_eq (s : State) :
    s.returnFromInterrupt = { s with pc := s.popValue, sp := s.sp + 2, ime := true } := by
  rw [State.returnFromInterrupt, State.returnToCaller_eq]

theorem exec_retIf_taken {cc : Cond} {s : State} (h : s.cond cc = true) :
    exec (Instr.retIf cc) s = .next s.returnToCaller := by
  rw [exec_retIf, ifCond_taken h]

theorem exec_retIf_untaken {cc : Cond} {s : State} (h : s.cond cc = false) :
    exec (Instr.retIf cc) s = .next (s.advance 1) := by
  rw [exec_retIf, ifCond_untaken h]

/-- With IME 1 and dispatch on, a pending request is taken (R322). -/
theorem State.takesInterrupt_of_pending {cfg : Config} {s : State} (hime : s.ime = true)
    (hdispatch : cfg.irqDispatch = true) (hpending : s.pendingInterrupts ≠ 0) :
    s.takesInterrupt cfg = true := by
  simpa [State.takesInterrupt, hime, hdispatch] using hpending

/-- A step that takes an interrupt is interrupt entry (R320, R324). -/
theorem stepWith_of_takesInterrupt {cfg : Config} {s : State} (hfault : s.fault = none)
    (htakes : s.takesInterrupt cfg = true) : stepWith cfg s = .next s.interruptEntry := by
  simp [stepWith, hfault, htakes]

/-- Settles O54: RET and each taken RET cc are the one shared return; RETI leaves IME 1 and no new
fault, so the boundary after it takes a pending request. -/
theorem returns : Obligations.Returns := by
  intro s i target htarget
  have hpop : s.popValue = target := State.popValue_eq_of_toNat htarget
  refine ⟨fun htaken => ?_, ?_, fun huntaken => ?_, ?_⟩
  · have hret : exec i s = .next s.returnToCaller := by
      obtain rfl | hcond := htaken
      · rfl
      · obtain ⟨cc, rfl, hcc⟩ := taken_cases Instr.retIf hcond
        exact exec_retIf_taken hcc
    rw [hret, State.returnToCaller_eq, hpop]
  · rw [← hpop, ← State.returnFromInterrupt_eq]
    rfl
  · obtain ⟨cc, rfl, hcc⟩ := untaken_cases Instr.retIf huntaken
    exact exec_retIf_untaken hcc
  · intro cfg t hreti hdispatch hfault hpending
    cases hreti
    have htakes : s.returnFromInterrupt.takesInterrupt cfg = true :=
      State.takesInterrupt_of_pending rfl hdispatch hpending
    exact ⟨htakes, stepWith_of_takesInterrupt hfault htakes⟩

end Sys2Proof.Machine
end

section
/-! PROOFS. HALT and DI (R296, R298), and the CB byte (R300): the instruction the byte after it selects
by its fields, that the CB table holds that instruction there and the encoder writes it back, what it
costs, and what executing it always does. -/
namespace Sys2Proof.Machine

/-! HALT and DI. -/

/-- With IME 0 no interrupt is taken, whatever is pending (R322). -/
theorem State.takesInterrupt_of_ime_off (cfg : Config) {s : State} (hime : s.ime = false) :
    s.takesInterrupt cfg = false := by
  simp [State.takesInterrupt, hime]

theorem exec_halt (s : State) : exec .halt s = .next { s with halted := true, pc := s.pc + 1 } := rfl

theorem exec_di (s : State) : exec .di s = .next { s with ime := false, pc := s.pc + 1 } := rfl

/-- Settles O55: neither meaning looks at IME or the requests; DI leaves IME 0, so the boundary after
it takes no interrupt. -/
theorem haltAndDi : Obligations.HaltAndDi := by
  intro s
  refine ⟨exec_halt s, exec_di s, fun cfg t hdi => ?_⟩
  cases hdi
  exact State.takesInterrupt_of_ime_off cfg rfl

/-! The CB-table instruction of a second byte. -/

/-- The instruction the fields x, y, z of the byte after 0xCB select (R92), by the same four blocks
as `executeCb`. -/
def cbInstr (op2 : Byte) : Instr :=
  match fieldX op2 with
  | 0 => Instr.shift (shiftOfCode (fieldY op2)) (operandOfCode (fieldZ op2))
  | 1 => Instr.bit (fieldY op2) (operandOfCode (fieldZ op2))
  | 2 => Instr.res (fieldY op2) (operandOfCode (fieldZ op2))
  | 3 => Instr.set (fieldY op2) (operandOfCode (fieldZ op2))

/-- Each of the 256 cells of the CB table holds the instruction of its byte's fields: none is
undefined (R92, R93). -/
theorem cellAt_cbTable (op2 : Byte) : cellAt cbTable op2 = some (cbInstr op2) := by
  revert op2
  decide +kernel

/-- The encoder writes the CB-table instruction of a byte as 0xCB and that byte. -/
theorem encode_cbInstr (op2 : Byte) : encode (cbInstr op2) = [0xCB, op2] := by
  revert op2
  decide +kernel

theorem decodeBytes_cb (op2 b2 : Byte) : decodeBytes 0xCB op2 b2 = .ok (cbInstr op2) := by
  have hcell : cellAt baseTable 0xCB = some .cbTable := rfl
  simp only [decodeBytes, hcell, cellAt_cbTable]

/-- The selected instruction and `executeCb` agree, block by block (R300). -/
theorem exec_cbInstr (op2 : Byte) (s : State) :
    exec (cbInstr op2) s = .next (executeCb op2 s) := by
  unfold cbInstr executeCb
  match fieldX op2 with
  | 0 => exact exec_shift ..
  | 1 => exact exec_bit ..
  | 2 => exact exec_res ..
  | 3 => exact exec_set ..

/-- A CB-table instruction costs what its second byte says, taken or not (R365). -/
theorem defaultCycles_cbInstr (op2 : Byte) (taken : Bool) :
    defaultCycles (cbInstr op2) taken = cbCycles op2 := by
  rw [defaultCycles, encode_cbInstr]
  rfl

theorem cbCycles_mem (op2 : Byte) : cbCycles op2 ∈ [8, 12, 16] := by
  unfold cbCycles
  split_ifs <;> simp

/-- Each of the four blocks moves pc past two bytes and raises no fault (R300). -/
theorem executeCb_pc_and_fault (op2 : Byte) (s : State) :
    (executeCb op2 s).pc = s.pc + 2 ∧ (executeCb op2 s).fault = s.fault := by
  unfold executeCb
  split
  · simp [shiftOperand, State.nextPc]
  · simp [testBit, State.nextPc]
  · simp [resetBit, State.nextPc]
  · simp [setBit, State.nextPc]

/-- Settles O60: the byte at pc + 1 decodes after 0xCB to `cbInstr`, whose meaning is `executeCb` of
that byte, as the row of 0xCB itself has it. -/
theorem prefixRunsTheCbInstruction : Obligations.PrefixRunsTheCbInstruction := by
  intro s
  obtain ⟨hpc, hfault⟩ := executeCb_pc_and_fault (s.readByte (s.pc + 1)) s
  refine ⟨cbInstr (s.readByte (s.pc + 1)), _, decodeBytes_cb _ _, (exec_cbInstr _ s).symm, rfl,
    hpc, hfault, fun taken => ?_⟩
  rw [defaultCycles_cbInstr]
  exact cbCycles_mem _

end Sys2Proof.Machine
end

section
/-! PROOFS. The steps that raise a fault (R310 to R315): the operations that check the stack, what
any effect of an instruction can do with FAULT, and that a fault reports no cost. -/
namespace Sys2Proof.Machine

/-! What an operation can do with FAULT. -/

/-- From `s` to `t` FAULT stays as it is, or the stack fault is raised and nothing else done. -/
def State.FaultKeptOrStackFault (s t : State) : Prop :=
  t.fault = s.fault ∨ t = s.raise .stackFault

/-- A push raises the stack fault before any change, or else keeps FAULT where what follows it does
(R141, R314). -/
theorem State.fault_push16Then (s : State) (v : Word) {after : State → State}
    (h : ∀ t, (after t).fault = t.fault) : s.FaultKeptOrStackFault (s.push16Then v after) := by
  by_cases hs : s.sp = 0
  · exact .inr (State.push16Then_zero hs v after)
  · left
    rw [State.push16Then_ne hs, h, State.pushWord_fault]

theorem fault_pushPair (r : RegStk) (s : State) : s.FaultKeptOrStackFault (pushPair r s) :=
  s.fault_push16Then _ fun t => t.advance_fault 1

theorem fault_call (a : Word) (len : Nat) (s : State) : s.FaultKeptOrStackFault (call a len s) :=
  s.fault_push16Then _ fun t => t.jump_fault a

/-- Interrupt entry makes the stack check before anything else (R324). -/
theorem State.fault_interruptEntry (s : State) : s.FaultKeptOrStackFault s.interruptEntry := by
  by_cases hs : s.sp = 0
  · exact .inr (State.interruptEntry_zero hs)
  · left
    simp [State.interruptEntry_ne hs]

/-- A conditional instruction whose condition is false raises no fault (R265). -/
theorem fault_ifCond (cc : Cond) (len : Nat) {effect : State → State} {s : State}
    (h : s.FaultKeptOrStackFault (effect s)) :
    s.FaultKeptOrStackFault (ifCond cc len effect s) := by
  unfold ifCond
  split
  · exact h
  · exact .inl (s.advance_fault len)

theorem fault_aluApply (op : AluOp) (v : Byte) (len : Nat) (s : State) :
    (aluApply op v len s).fault = s.fault := by
  obtain ⟨-, -, -, -, ⟨-, -, hfault⟩, -⟩ := aluApply_kept op v len s
  exact hfault

/-- Whatever an instruction does, it keeps FAULT or is a push whose check failed (R314, R315). -/
theorem fault_of_effect {s t : State} (h : Effect s t) : s.FaultKeptOrStackFault t := by
  cases h
  -- The instructions that push, and the conditional ones.
  case pushPair r => exact fault_pushPair r s
  case call a len => exact fault_call a len s
  case callIf cc a => exact fault_ifCond cc 3 (fault_call a 3 s)
  case jumpIf cc a => exact fault_ifCond cc 3 (.inl (s.jump_fault a))
  case jumpRelativeIf cc e8 => exact fault_ifCond cc 2 (.inl (s.jump_fault _))
  case retIf cc => exact fault_ifCond cc 1 (.inl rfl)
  -- All others write other fields only.
  all_goals left
  case storeByte | storeThenHl | loadThenHl | storeHl | loadHlSpPlus | addHl | addSp | testBit |
      jump | jumpRelative | ret | reti | nop | decimalAdjust | complementA | complementCarry |
      setCarry | halt | setIme => rfl
  case aluApply op v len => exact fault_aluApply op v len s
  case loadReg | loadPair | popPair | incPair | decPair =>
    simp [loadReg, loadPair, popPair, incPair, decPair]
  case incOperand | decOperand | shiftOperand | setBit | resetBit =>
    simp [incOperand, decOperand, shiftOperand, setBit, resetBit]

/-! A whole step. -/

/-- A step keeps FAULT, or raises one of the two faults and does nothing else (R312, R320). -/
theorem stepWith_keeps_or_raises {cfg : Config} {s t : State} (h : stepWith cfg s = .next t) :
    t.fault = s.fault ∨ ∃ f, t = s.raise f := by
  obtain ⟨-, rfl⟩ | ⟨-, -, rfl⟩ | ⟨-, -, -, rfl⟩ | ⟨-, hnext⟩ := stepWith_cases h
  · exact .inl rfl
  · exact s.fault_interruptEntry.imp_right fun hraise => ⟨.stackFault, hraise⟩
  · exact .inl rfl
  · obtain ⟨i, -, hexec⟩ | ⟨b, rfl⟩ := executeNext_cases hnext
    · exact (fault_of_effect (execWith_effect hexec)).imp_right fun hraise => ⟨.stackFault, hraise⟩
    · exact .inr ⟨_, rfl⟩

/-- "A faulting step reports no cycle cost" (R312). -/
theorem stepResult_cycles_of_fault {cfg : Config} (cyc : CycleTable) {s t : State} {f : Fault}
    (h : stepWith cfg s = .next t) (hf : t.fault = some f) :
    (stepResult cfg cyc s).cycles = none := by
  simp only [stepResult, h, hf]

/-- Settles O16: from an unfaulted state a step that ends faulted did not keep FAULT, so it raised a
fault and did nothing else. -/
theorem faultingStepChangesOnlyFault : Obligations.FaultingStepChangesOnlyFault := by
  intro cfg cyc s t hs hstep ht
  obtain hkept | ⟨f, rfl⟩ := stepWith_keeps_or_raises hstep
  · exact absurd (hkept.trans hs) ht
  · exact ⟨rfl, stepResult_cycles_of_fault cyc hstep (s.raise_fault f)⟩

end Sys2Proof.Machine
end

section
/-! PROOFS. The decoder and the encoder (R80 to R93): every cell of the base table says how the
instructions it selects are encoded, every instruction is decoded from the bytes of its encoding, and
so each undoes the other. -/
namespace Sys2Proof.Machine

/-! From the tables to the encoder. -/

/-- What a cell of the base table at first byte `b0` promises of the encoder: the bytes of the
instructions it selects, `b1` or `w` being the operand where one follows. -/
def Spells (b0 b1 : Byte) (w : Word) : BaseEntry → Prop
  | .plain i => (encode i, i.wellFormed) = ([b0], true)
  | .padded i => (i, b0) = (.stop, 0x10)
  | .byte f => (encode (f b1), (f b1).wellFormed) = ([b0, b1], true)
  | .word f => (encode (f w), (f w).wellFormed) = ([b0, lo w, hi w], true)
  | .cbTable => b0 = 0xCB
  | .undefined => decide (b0 ∈ undefinedBytes) = true

/-- Every cell of the base table keeps its promise (R91). -/
theorem baseTable_spells (b0 b1 : Byte) (w : Word) :
    ∃ e, cellAt baseTable b0 = some e ∧ Spells b0 b1 w e := by
  obtain ⟨n, hn, rfl⟩ : ∃ n < 256, b0 = BitVec.ofNat 8 n := ⟨b0.toNat, b0.isLt, by simp⟩
  interval_cases n <;> exact ⟨_, rfl, rfl⟩

/-- A CB-table instruction is well-formed: it is not the lone prefix, whose encoding is one byte. -/
theorem wellFormed_cbInstr (op2 : Byte) : (cbInstr op2).wellFormed = true := by
  revert op2
  decide +kernel

/-- What three bytes decode to is STOP, or is encoded in the first `n` of them, where `n` is the
length that the first one gives. -/
theorem encode_of_decodeBytes {b0 b1 b2 : Byte} {i : Instr} (h : decodeBytes b0 b1 b2 = .ok i) :
    (b0 = 0x10 ∧ i = .stop) ∨
      (b0 ≠ 0x10 ∧ i.wellFormed = true ∧ ∃ n, 0 < n ∧ n ≤ 3 ∧ (∀ cfg, lengthOf cfg b0 = n) ∧
        encode i = [b0, b1, b2].take n) := by
  obtain ⟨e, hcell, hspells⟩ := baseTable_spells b0 b1 (pair b2 b1)
  have hstop : b0 = 0x10 → e = .padded .stop := by rintro rfl; exact (Option.some.inj hcell).symm
  rw [decodeBytes, hcell] at h
  cases e with
  | plain j =>
    obtain ⟨henc, hwf⟩ := Prod.mk.inj hspells
    obtain rfl : j = i := Except.ok.inj h
    exact .inr ⟨(nomatch hstop ·), hwf, 1, by decide, by decide,
      fun cfg => by rw [lengthOf, hcell], henc⟩
  | padded j =>
    obtain ⟨hj, hb⟩ := Prod.mk.inj hspells
    exact .inl ⟨hb, (Except.ok.inj h).symm.trans hj⟩
  | byte f =>
    obtain ⟨henc, hwf⟩ := Prod.mk.inj hspells
    obtain rfl : f b1 = i := Except.ok.inj h
    exact .inr ⟨(nomatch hstop ·), hwf, 2, by decide, by decide,
      fun cfg => by rw [lengthOf, hcell], henc⟩
  | word f =>
    obtain ⟨henc, hwf⟩ := Prod.mk.inj hspells
    obtain rfl : f (pair b2 b1) = i := Except.ok.inj h
    rw [lo_pair, hi_pair] at henc
    exact .inr ⟨(nomatch hstop ·), hwf, 3, by decide, by decide,
      fun cfg => by rw [lengthOf, hcell], henc⟩
  | cbTable =>
    obtain rfl : b0 = 0xCB := hspells
    rw [cellAt_cbTable] at h
    obtain rfl : cbInstr b1 = i := Except.ok.inj h
    exact .inr ⟨by decide, wellFormed_cbInstr b1, 2, by decide, by decide,
      fun cfg => by rw [lengthOf, hcell], encode_cbInstr b1⟩
  | undefined => cases h

/-- Settles O2: no cell but STOP's leaves a byte of the instruction out of it. -/
theorem encodeOfDecodedBytesIsTheBytes : Obligations.EncodeOfDecodedBytesIsTheBytes := by
  intro b0 b1 b2 i h
  obtain ⟨rfl, rfl⟩ | ⟨hb, hwf, n, hpos, -, hlen, henc⟩ := encode_of_decodeBytes h
  · exact ⟨rfl, iff_of_true rfl rfl, fun hi => absurd rfl hi⟩
  · refine ⟨hwf, iff_of_false ?_ hb, fun _ cfg => by rw [hlen, henc]⟩
    rintro rfl
    obtain ⟨n, rfl⟩ := Nat.exists_eq_succ_of_ne_zero hpos.ne'
    exact hb (List.cons.inj henc).1.symm

/-! From the encoder to the tables. -/

theorem decodeBytes_word {b0 : Byte} {f : Word → Instr}
    (h : cellAt baseTable b0 = some (.word f)) (w : Word) :
    decodeBytes b0 (lo w) (hi w) = .ok (f w) := by
  simp only [decodeBytes, h, pair_hi_lo]

/-- Bytes that begin with the encoding of an instruction decode to it: the tables have a cell for
each, and only a 16-bit operand has to be put together from two bytes. -/
theorem decodeBytes_of_prefix {i : Instr} (hwf : i.wellFormed = true) {b0 b1 b2 : Byte}
    (h : encode i <+: [b0, b1, b2]) : decodeBytes b0 b1 b2 = .ok i := by
  obtain ⟨rest, h⟩ := h
  cases i
  case prefixCb => cases hwf
  case ldBcD16 w | ldMA16Hl w | ldDeD16 w | ldHlD16 w | ldSpD16 w | jpNzA16 w | jpA16 w |
      callNzA16 w | jpZA16 w | callZA16 w | callA16 w | jpNcA16 w | callNcA16 w | jpCA16 w |
      callCA16 w | ldMA16A w | ldAMA16 w =>
    cases h
    exact decodeBytes_word rfl w
  all_goals cases h; rfl

theorem length_encode_le (i : Instr) : (encode i).length ≤ 3 := by
  cases i <;> exact Nat.le_of_ble_eq_true rfl

theorem encodeWith_of_ne_stop (cfg : Config) {i : Instr} (h : i ≠ .stop) :
    encodeWith cfg i = encode i := by
  unfold encodeWith
  split
  · exact absurd rfl h
  · rfl

@[simp] theorem encodeWith_default (i : Instr) : encodeWith Config.default i = encode i := by
  by_cases h : i = .stop
  · subst h; rfl
  · exact encodeWith_of_ne_stop _ h

/-- The instruction whose encoding stands at the front of a run of bytes `m` is decoded from it. -/
theorem decodeBytes_of_encodeWith {cfg : Config} {i : Instr} (hwf : i.wellFormed = true)
    {m : Nat → Byte} (h : ∀ k b, (encodeWith cfg i)[k]? = some b → m k = b) :
    decodeBytes (m 0) (m 1) (m 2) = .ok i := by
  by_cases hi : i = .stop
  · subst hi
    rw [h 0 0x10 rfl]
    rfl
  · rw [encodeWith_of_ne_stop cfg hi] at h
    refine decodeBytes_of_prefix hwf (List.prefix_iff_getElem?.2 fun k hk => ?_)
    have hk3 : k < 3 := hk.trans_le (length_encode_le i)
    rw [← h k _ (List.getElem?_eq_getElem hk)]
    interval_cases k <;> rfl

/-- The encoding is as long as its first byte says (R81, R95). -/
theorem length_encodeWith (cfg : Config) (hpos : 0 < cfg.stopLen) {i : Instr}
    (hwf : i.wellFormed = true) :
    ∃ b0 tail, encodeWith cfg i = b0 :: tail ∧ (encodeWith cfg i).length = lengthOf cfg b0 := by
  by_cases hi : i = .stop
  · subst hi
    exact ⟨_, _, rfl, Laws.EncodedLength.stop rfl cfg hpos⟩
  · have hdec := decodeBytes_of_encodeWith (cfg := cfg) hwf
      (m := fun k => (encodeWith cfg i)[k]?.getD 0) fun k b hk => by simp [hk]
    obtain ⟨-, rfl⟩ | ⟨-, -, n, hpos, hle, hlen, henc⟩ := encode_of_decodeBytes hdec
    · exact absurd rfl hi
    · rw [encodeWith_of_ne_stop cfg hi] at *
      obtain ⟨n, rfl⟩ := Nat.exists_eq_succ_of_ne_zero hpos.ne'
      refine ⟨_, _, henc, ?_⟩
      rw [hlen, henc]
      simpa using Nat.le_of_lt_succ hle

theorem decodeWith_of_decodeBytes {cfg : Config} {b0 : Byte} {tail : List Byte} {i : Instr}
    (h : decodeBytes b0 (tail[0]?.getD 0) (tail[1]?.getD 0) = .ok i)
    (hlen : lengthOf cfg b0 ≤ (b0 :: tail).length) :
    decodeWith cfg (b0 :: tail) = .ok (i, (b0 :: tail).drop (lengthOf cfg b0)) := by
  simp only [decodeWith, h, if_neg hlen.not_gt]

/-- Settles O1: the instruction is decoded from the front of the bytes, and as many are dropped as the
first byte says, which is the length of its encoding. -/
theorem decodeOfEncodeIsTheInstruction : Obligations.DecodeOfEncodeIsTheInstruction := by
  have hwith (cfg : Config) (hpos : 0 < cfg.stopLen) (i : Instr) (rest : List Byte)
      (hwf : i.wellFormed = true) : decodeWith cfg (encodeWith cfg i ++ rest) = .ok (i, rest) := by
    obtain ⟨b0, tail, henc, hlen⟩ := length_encodeWith cfg hpos hwf
    have hdec := decodeBytes_of_encodeWith (cfg := cfg) hwf
      (m := fun k => (encodeWith cfg i ++ rest)[k]?.getD 0) fun k b hk => by
        rw [List.getElem?_append_left (List.getElem?_eq_some_iff.1 hk).1, hk, Option.getD_some]
    have hdrop : (encodeWith cfg i ++ rest).drop (lengthOf cfg b0) = rest := List.drop_left' hlen
    have hle : lengthOf cfg b0 ≤ (encodeWith cfg i ++ rest).length :=
      hlen ▸ (List.prefix_append ..).length_le
    rw [henc, List.cons_append] at *
    rw [decodeWith_of_decodeBytes (b0 := b0) hdec hle, hdrop]
  intro i rest hwf
  refine ⟨?_, fun cfg hpos => hwith cfg hpos i rest hwf⟩
  rw [← encodeWith_default]
  exact hwith Config.default (by decide) i rest hwf

/-! The step. -/

/-- A step at which nothing comes before the fetch executes an instruction (R320). -/
theorem stepWith_of_executes {cfg : Config} {s : State} (h : Executes cfg s) :
    stepWith cfg s = executeNext cfg s := by
  obtain ⟨hfault, htakes, hhalted⟩ := h
  simp [stepWith, hfault, htakes, hhalted]

/-- Such a step at bytes that decode runs the instruction they decode to. -/
theorem stepWith_of_decodesAtPc {cfg : Config} {s : State} {i : Instr} (h : Executes cfg s)
    (hdec : DecodesAtPc s i) : stepWith cfg s = execWith cfg i s := by
  rw [stepWith_of_executes h, executeNext_of_decodesAtPc cfg hdec]

/-- Settles O6: the step adds nothing around the meaning, and STOP's alone takes a parameter. -/
theorem stepRunsTheDecodedInstruction : Obligations.StepRunsTheDecodedInstruction := by
  refine ⟨fun _ _ _ => stepWith_of_decodesAtPc, fun s i h hdec => ?_, fun cfg s i => ?_⟩
  · rw [step, stepWith_of_decodesAtPc h hdec, execWith_default]
  · exact ⟨fun hi => execWith_of_ne_stop cfg hi s, execWith_default i s, rfl⟩

/-- Settles O7: the bytes at pc decode to the instruction whose encoding they are. -/
theorem stepRunsTheEncodedInstruction : Obligations.StepRunsTheEncodedInstruction := by
  intro cfg s i hwf hexec hbytes
  have hdec : DecodesAtPc s i := by
    have h := decodeBytes_of_encodeWith hwf (m := fun k => s.readByte (s.pc + BitVec.ofNat 16 k))
      hbytes
    rwa [BitVec.add_zero] at h
  have hstep := stepWith_of_decodesAtPc hexec hdec
  refine ⟨hstep, ?_⟩
  rintro rfl
  rw [hstep, execWith_default]

/-- The rejected first bytes, each by name (R93). -/
theorem decodeBytes_of_undefined {b0 : Byte} (h : b0 ∈ undefinedBytes) (b1 b2 : Byte) :
    decodeBytes b0 b1 b2 = .error (.unknownInstruction b0) := by
  simp only [undefinedBytes, List.mem_cons, List.not_mem_nil, or_false] at h
  obtain rfl | rfl | rfl | rfl | rfl | rfl | rfl | rfl | rfl | rfl | rfl := h <;> rfl

/-- Every other first byte has a cell that selects an instruction (R91 to R93). -/
theorem decodeBytes_of_not_undefined {b0 : Byte} (h : b0 ∉ undefinedBytes) (b1 b2 : Byte) :
    ∃ i, decodeBytes b0 b1 b2 = .ok i := by
  obtain ⟨e, hcell, hspells⟩ := baseTable_spells b0 b1 0
  rw [decodeBytes, hcell]
  cases e with
  | plain i | padded i | byte f | word f => exact ⟨_, rfl⟩
  | cbTable => exact ⟨cbInstr b1, by rw [cellAt_cbTable]⟩
  | undefined => exact absurd (of_decide_eq_true hspells) h

/-- Settles O5: exactly the eleven have no cell, and the step that meets one raises the fault. -/
theorem undefinedFirstByteLatchesFault : Obligations.UndefinedFirstByteLatchesFault := by
  refine ⟨fun b0 b1 b2 => ⟨fun h => decodeBytes_of_undefined h b1 b2,
    fun h => decodeBytes_of_not_undefined h b1 b2⟩, fun cfg s hexec hbyte => ?_⟩
  rw [stepWith_of_executes hexec, executeNext, decodeBytes_of_undefined hbyte]
  rfl

/-! The fields of an opcode. -/

theorem decodeBytes_of_encode_one {b0 : Byte} {i : Instr} (hwf : i.wellFormed = true)
    (h : encode i = [b0]) (b1 b2 : Byte) : decodeBytes b0 b1 b2 = .ok i :=
  decodeBytes_of_prefix hwf (h ▸ ⟨[b1, b2], rfl⟩)

/-- Settles O4: each word is read off the tables. -/
theorem sampleWordsDecode : Obligations.SampleWordsDecode :=
  ⟨rfl, rfl, rfl, rfl, rfl, rfl, rfl, rfl, rfl, rfl, rfl⟩

/-- Settles O3: in the base table the encoder gives the byte of each pair of fields back; in the CB
table the fields of the byte name the instruction. -/
theorem opcodeFieldsSelectTheInstruction : Obligations.OpcodeFieldsSelectTheInstruction := by
  intro y z b1 b2
  have hcb {op2 : Byte} {i : Instr} (h : cbInstr op2 = i) : decodeBytes 0xCB op2 b2 = .ok i :=
    h ▸ decodeBytes_cb op2 b2
  refine ⟨decodeBytes_of_encode_one ?_ ?_ b1 b2, decodeBytes_of_encode_one ?_ ?_ b1 b2,
    hcb ?_, hcb ?_, hcb ?_, hcb ?_⟩
  all_goals revert y z; decide

end Sys2Proof.Machine
end

section
/-! PROOFS. Memory (R50, R55, log 11): every operation keeps the canonical form, a canonical memory is
determined by what is read from it, and what reset and the images of the host leave in it. -/
namespace Sys2Proof.Machine

/-! Every step keeps the canonical form. -/

theorem wf_pushPair {s : State} (h : s.mem.wf = true) (r : RegStk) : (pushPair r s).mem.wf = true := by
  by_cases hs : s.sp = 0
  · rwa [pushPair_zero hs]
  · rw [pushPair_ne hs]
    exact State.wf_pushWord h _

theorem wf_call {s : State} (h : s.mem.wf = true) (a : Word) (len : Nat) :
    (call a len s).mem.wf = true := by
  by_cases hs : s.sp = 0
  · rwa [call_zero hs]
  · rw [call_ne hs]
    exact State.wf_pushWord h _

/-- A conditional instruction keeps the form where its effect does (R265). -/
theorem wf_ifCond {s : State} (h : s.mem.wf = true) (cc : Cond) (len : Nat) {effect : State → State}
    (he : (effect s).mem.wf = true) : (ifCond cc len effect s).mem.wf = true := by
  unfold ifCond
  split
  · exact he
  · exact h

theorem mem_aluApply (op : AluOp) (v : Byte) (len : Nat) (s : State) :
    (aluApply op v len s).mem = s.mem := by
  rw [aluApply_eq, State.advance_mem, setAluFlags_eq, State.setR8_mem]

/-- Whatever an instruction does, it stores by `Memory.write`, or not at all. -/
theorem wf_of_effect {s t : State} (h : Effect s t) (hs : s.mem.wf = true) : t.mem.wf = true := by
  cases h
  -- The instructions that store.
  case storeByte a v len => exact Memory.wf_write hs a v
  case storeThenHl v => exact Memory.wf_write hs s.hl s.a
  case storeHl a => exact Memory.wf_writeWord hs a s.hl
  case pushPair r => exact wf_pushPair hs r
  case call a len => exact wf_call hs a len
  case callIf cc a => exact wf_ifCond hs cc 3 (wf_call hs a 3)
  case incOperand o | decOperand o | setBit b o | resetBit b o | shiftOperand op o len =>
    exact State.wf_setOperand hs o _
  -- The others leave memory as it is.
  case jumpIf cc a => exact wf_ifCond hs cc 3 hs
  case jumpRelativeIf cc e8 => exact wf_ifCond hs cc 2 hs
  case retIf cc => exact wf_ifCond hs cc 1 hs
  case aluApply op v len => rwa [mem_aluApply]
  case loadReg | loadPair | popPair | incPair | decPair =>
    simpa [loadReg, loadPair, popPair, incPair, decPair] using hs
  all_goals exact hs

/-- A step stores what interrupt entry or one instruction does. -/
theorem wf_stepWith {cfg : Config} {s t : State} (hs : s.mem.wf = true)
    (h : stepWith cfg s = .next t) : t.mem.wf = true := by
  obtain ⟨-, rfl⟩ | ⟨-, -, rfl⟩ | ⟨-, -, -, rfl⟩ | ⟨-, hnext⟩ := stepWith_cases h
  · exact hs
  · exact State.wf_interruptEntry hs
  · exact hs
  · obtain ⟨i, -, hexec⟩ | ⟨b, rfl⟩ := executeNext_cases hnext
    · exact wf_of_effect (execWith_effect hexec) hs
    · exact hs

/-- Settles O13: the external writes keep the form, and the step at that boundary keeps it. -/
theorem everyStepKeepsMemoryCanonical : Obligations.EveryStepKeepsMemoryCanonical :=
  fun _ ws _ _ hs h => wf_stepWith (State.wf_external hs ws) h

/-! Reads determine a canonical memory. -/

/-- Reading the first listed address. -/
theorem Memory.read_cons_same {k : Nat} (hk : k < 65536) (v : Byte) (rest : Memory) :
    Memory.read ((k, v) :: rest) (BitVec.ofNat 16 k) = v := by
  simp [Memory.read, Nat.mod_eq_of_lt hk]

/-- A memory that lists a byte reads differently from one whose addresses all lie above it. -/
theorem Memory.read_cons_ne_above {low k : Nat} {v : Byte} {rest n : Memory}
    (hm : Memory.wfFrom low ((k, v) :: rest) = true) (hn : n.wfFrom (k + 1) = true) :
    ∃ a, Memory.read ((k, v) :: rest) a ≠ n.read a := by
  obtain ⟨-, hk, hv, -⟩ := (Memory.wfFrom_cons ..).1 hm
  have ha : (BitVec.ofNat 16 k).toNat < k + 1 := by simp; omega
  exact ⟨BitVec.ofNat 16 k, by rwa [Memory.read_cons_same hk, Memory.read_below ha n hn]⟩

/-- Two canonical listings that read the same agree at the first address, and so on after it. -/
theorem Memory.eq_of_read_eq : ∀ {low : Nat} {m n : Memory}, m.wfFrom low = true →
    n.wfFrom low = true → (∀ a, m.read a = n.read a) → m = n
  | _, [], [], _, _, _ => rfl
  | _, [], (j, w) :: n, _, hn, h => by
    obtain ⟨a, ha⟩ := Memory.read_cons_ne_above (n := []) hn rfl
    exact absurd (h a).symm ha
  | _, (k, v) :: m, [], hm, _, h => by
    obtain ⟨a, ha⟩ := Memory.read_cons_ne_above (n := []) hm rfl
    exact absurd (h a) ha
  | low, (k, v) :: m, (j, w) :: n, hm, hn, h => by
    obtain ⟨-, hk, hv, hm'⟩ := (Memory.wfFrom_cons ..).1 hm
    obtain ⟨-, hj, hw, hn'⟩ := (Memory.wfFrom_cons ..).1 hn
    obtain hlt | rfl | hgt := lt_trichotomy k j
    · obtain ⟨a, ha⟩ := Memory.read_cons_ne_above (n := (j, w) :: n) hm
        ((Memory.wfFrom_cons ..).2 ⟨hlt, hj, hw, hn'⟩)
      exact absurd (h a) ha
    · obtain rfl : v = w := by
        rw [← Memory.read_cons_same hk v m, h, Memory.read_cons_same hk]
      have hrest (a : Word) : Memory.read m a = Memory.read n a := by
        by_cases ha : k = a.toNat
        · have hlow : a.toNat < k + 1 := by omega
          rw [Memory.read_below hlow m hm', Memory.read_below hlow n hn']
        · simpa [Memory.read, ha] using h a
      rw [Memory.eq_of_read_eq hm' hn' hrest]
    · obtain ⟨a, ha⟩ := Memory.read_cons_ne_above (n := (k, v) :: m) hn
        ((Memory.wfFrom_cons ..).2 ⟨hgt, hk, hv, hm'⟩)
      exact absurd (h a).symm ha

/-- Settles O23: the listings are compared from the lowest address up. -/
theorem equalReadsAreEqualMemories : Obligations.EqualReadsAreEqualMemories :=
  fun _ _ => Memory.eq_of_read_eq

/-! Reset and the images. -/

theorem State.getR8_resetWith (cfg : Config) (m : Memory) (r : Reg8) :
    (State.resetWith cfg m).getR8 r = 0x00 := by cases r <;> rfl

/-- The invariant holds at reset: F is zero, and memory is the one given (R38). -/
theorem State.inv_resetWith (cfg : Config) {m : Memory} (h : m.wf = true) :
    (State.resetWith cfg m).inv = true :=
  Bool.and_eq_true_iff.2 ⟨beq_iff_eq.2 BitVec.zero_and, h⟩

/-- Settles O14: each field is given outright. -/
theorem resetState : Obligations.ResetState :=
  ⟨State.getR8_resetWith _ _, rfl, rfl, rfl, rfl, rfl, rfl, rfl, State.inv_resetWith _ rfl,
    fun cfg m h => ⟨State.inv_resetWith cfg h, State.getR8_resetWith cfg m, rfl, rfl, rfl, rfl, rfl,
      rfl, rfl⟩⟩

/-- The memory the images make is what the writes of their bytes make of an empty one. -/
theorem State.external_mem (s : State) (ws : ExtWrites) :
    (s.external ws).mem = ws.foldl (fun m w => m.write w.1 w.2) s.mem := by
  induction ws generalizing s with
  | nil => rfl
  | cons w ws ih => exact ih _

theorem initMem_eq_external (cart boot : List Byte) :
    initMem cart boot =
      ((State.reset.external (imageWrites 0 (cart.take 65536))).external
        (imageWrites 0 (boot.take 256))).mem := by
  rw [← State.external_append, State.external_mem]
  rfl

/-- After an image is written from `start`, its addresses hold its bytes and the others what they
held. -/
theorem State.readByte_external_image {s : State} (hm : s.mem.wf = true) (start : Nat)
    (image : List Byte) (hfit : start + image.length ≤ 65536) (a : Word) :
    (s.external (imageWrites start image)).readByte a =
      if start ≤ a.toNat then image[a.toNat - start]?.getD (s.readByte a) else s.readByte a := by
  induction image generalizing s start with
  | nil => simp [imageWrites]
  | cons b bs ih =>
    rw [List.length_cons] at hfit
    have hstart : a = BitVec.ofNat 16 start ↔ a.toNat = start := by
      rw [← BitVec.toNat_inj, BitVec.toNat_ofNat, Nat.mod_eq_of_lt (by omega)]
    rw [imageWrites, State.external_cons, ih (Memory.wf_write hm _ _) _ (by omega),
      State.readByte_writeByte s hm]
    simp only [hstart]
    obtain hlt | heq | hgt := lt_trichotomy a.toNat start
    · simp [hlt.not_ge, hlt.ne, (Nat.lt_succ_of_lt hlt).not_ge]
    · simp [heq]
    · have hsucc : a.toNat - start = a.toNat - (start + 1) + 1 := by omega
      rw [if_pos (Nat.succ_le_of_lt hgt), if_pos hgt.le, if_neg hgt.ne', hsucc, List.getElem?_cons_succ]

/-- Settles O24: the cartridge is written into an empty memory, the boot ROM over it; both are cut
where the address space or the first 256 bytes end. -/
theorem initialMemoryFromTheImages : Obligations.InitialMemoryFromTheImages := by
  intro cart boot
  have hcart : (State.reset.external (imageWrites 0 (cart.take 65536))).mem.wf = true :=
    State.wf_external State.reset_mem_wf _
  rw [initMem_eq_external]
  refine ⟨State.wf_external hcart _, fun a => ?_⟩
  have hread := State.readByte_external_image hcart 0 (boot.take 256) (by simp) a
  rw [State.readByte_external_image State.reset_mem_wf 0 (cart.take 65536) (by simp) a] at hread
  have hempty : State.reset.readByte a = Config.unlistedByte := rfl
  simp only [Nat.zero_le, if_true, Nat.sub_zero, List.getElem?_take, a.isLt, hempty] at hread
  refine hread.trans ?_
  by_cases hboot : a.toNat < 256 ∧ a.toNat < boot.length
  · simp [hboot]
  · rw [if_neg hboot]
    split_ifs with h256
    · rw [List.getElem?_eq_none (by omega), Option.getD_none]
    · rfl

end Sys2Proof.Machine
end

section
/-! PROOFS. The remaining loads and stack operations (R118 to R125, R145, R146, R149, R202): a store
of a word, SP plus a displacement, POP AF, a push and the pop that undoes it, and the byte order of
every 16-bit access (R55). -/
namespace Sys2Proof.Machine

/-! Stores. -/

/-- Settles O31: each form is `storeByte` of A at its own address. -/
theorem storeAToAddress : Obligations.StoreAToAddress := by
  rintro s i addr len (⟨rfl, rfl, rfl⟩ | ⟨rfl, rfl, rfl⟩ | ⟨rfl, rfl⟩ | ⟨rfl, rfl, rfl⟩ |
    ⟨a8, rfl, rfl, rfl⟩)
  · exact ⟨_, rfl, storeByte_result s.bc s.a 1 s⟩
  · exact ⟨_, rfl, storeByte_result s.de s.a 1 s⟩
  · exact ⟨_, rfl, storeByte_result addr s.a 3 s⟩
  · rw [← zeroPage_eq]
    exact ⟨_, rfl, storeByte_result (zeroPage s.c) s.a 1 s⟩
  · rw [← zeroPage_eq]
    exact ⟨_, rfl, storeByte_result (zeroPage a8) s.a 2 s⟩

@[simp] theorem State.hi_hl (s : State) : hi s.hl = s.h := hi_pair _ _

@[simp] theorem State.lo_hl (s : State) : lo s.hl = s.l := lo_pair _ _

@[simp] theorem Word.ne_add_one (a : Word) : a ≠ a + 1#16 := by bv_omega

/-- A word write changes its two bytes alone (R55). -/
theorem State.frame_writeWord (s : State) (a v : Word) :
    s.Frame (s.writeWord a v) [] [] [a, a + 1] := by
  refine ⟨fun q _ => s.getR8_writeWord a v q, fun _ _ => rfl, ⟨rfl, rfl, rfl⟩, fun x hx => ?_⟩
  simp only [List.mem_cons, List.not_mem_nil, or_false, not_or] at hx
  exact s.readByte_writeWord_ne hx.1 hx.2 v

/-- `LD (a16),HL`: L at a16, H at the next address, pc past the three bytes, and nothing else
(R146). -/
theorem storeHl_result (a : Word) (s : State) :
    (s.mem.wf = true → (storeHl a s).readByte a = s.l ∧ (storeHl a s).readByte (a + 1) = s.h) ∧
      (storeHl a s).pc = s.pc + 3 ∧ (storeHl a s).sp = s.sp ∧ s.LowNibbleKept (storeHl a s) ∧
      s.Frame (storeHl a s) [] [] [a, a + 1] := by
  refine ⟨fun hm => ⟨?_, ?_⟩, rfl, rfl, rfl, (s.frame_writeWord a s.hl).advance 3⟩
  · simp [storeHl, State.readByte_writeWord s hm]
  · simp [storeHl, State.readByte_writeWord s hm]

/-- Settles O35: it is the shared operation `storeHl`. -/
theorem storeHlAbsolute : Obligations.StoreHlAbsolute := fun s a16 => ⟨_, rfl, storeHl_result a16 s⟩

/-! SP plus a displacement. -/

/-- The sign extension of a byte, as a number (R8). -/
theorem toNat_sext16 (b : Byte) :
    (sext16 b).toNat = if b.toNat < 0x80 then b.toNat else 0xFF00 + b.toNat := by
  revert b
  decide +kernel

/-- The flags of SP plus a displacement, in any state that still has SP (R145, R202). -/
theorem flagsOfSpPlus_flags (e8 : Byte) (s : State) :
    (flagsOfSpPlus e8 s).flag .z = false ∧ (flagsOfSpPlus e8 s).flag .n = false ∧
      ((flagsOfSpPlus e8 s).flag .h = true ↔
        s.sp.toNat % 4096 + (sext16 e8).toNat % 4096 > 0x0FFF) ∧
      ((flagsOfSpPlus e8 s).flag .c = true ↔ s.sp.toNat + (sext16 e8).toNat > 0xFFFF) := by
  simp [flagsOfSpPlus, half16, carry16]

/-- Only the flags change. -/
theorem flagsOfSpPlus_kept (e8 : Byte) (s : State) :
    s.LowNibbleKept (flagsOfSpPlus e8 s) ∧ s.Frame (flagsOfSpPlus e8 s) [] [.z, .n, .h, .c] [] :=
  ⟨by simp [flagsOfSpPlus, State.LowNibbleKept], s.frame_withF _⟩

/-- Settles O34: both write the flags of the sum, from SP as it was, and the sum to HL or to SP. -/
theorem stackPointerPlusDisplacement : Obligations.StackPointerPlusDisplacement := by
  intro s e8 off hoff
  obtain rfl : off = sext16 e8 := BitVec.eq_of_toNat_eq (hoff.trans (toNat_sext16 e8).symm)
  constructor
  · obtain ⟨hz, hn, hh, hc⟩ := flagsOfSpPlus_flags e8 (s.setHl (s.sp + sext16 e8))
    obtain ⟨hlow, hframe⟩ := flagsOfSpPlus_kept e8 (s.setHl (s.sp + sext16 e8))
    refine ⟨_, rfl, ?_, rfl, hz, hn, hh, hc, rfl, hlow, ((s.frame_setHl _).trans hframe).advance 2⟩
    rw [loadHlSpPlus, flagsOfSpPlus, State.hl_advance, State.hl_setFlags, State.hl_setHl,
      BitVec.toNat_add]
  · obtain ⟨hz, hn, hh, hc⟩ := flagsOfSpPlus_flags e8 s
    obtain ⟨hlow, hframe⟩ := flagsOfSpPlus_kept e8 s
    exact ⟨_, rfl, BitVec.toNat_add .., hz, hn, hh, hc, rfl, hlow,
      (hframe.trans (State.frame_setR16 _ .sp _)).advance 2⟩

/-! POP AF, and PUSH then POP. -/

/-- POP AF writes A and F alone, F masked (R149). -/
theorem popPair_af_result (s : State) :
    (popPair .af s).a = s.readByte (s.sp + 1) ∧ (popPair .af s).f = s.readByte s.sp &&& 0xF0 ∧
      (popPair .af s).sp = s.sp + 2 ∧ (popPair .af s).pc = s.pc + 1 ∧
      s.Frame (popPair .af s) [.a] [.z, .n, .h, .c] [] := by
  refine ⟨hi_pair _ _, f_popPair_af s, Word.add_one_add_one _, rfl, ?_⟩
  exact ((s.frame_popped.trans (State.frame_setR8 _ .a (hi s.popValue))).trans
    (State.frame_withF _ (lo s.popValue &&& 0xF0))).advance 1

/-- Settles O38: it is the shared pop, which masks F. -/
theorem popAfMasksF : Obligations.PopAfMasksF := fun s => ⟨_, rfl, popPair_af_result s⟩

/-- What was pushed is what the pop takes, in a memory in canonical form. -/
theorem State.popValue_pushWord {s : State} (hm : s.mem.wf = true) (v : Word) :
    (s.pushWord v).popValue = v := by
  simp [State.popValue_eq, State.readByte_pushWord hm]

/-- A byte whose low nibble is zero is unchanged by the mask of AF (R22). -/
theorem and_F0_of_low_zero {f : Byte} (h : f &&& 0x0F = 0) : f &&& 0xF0 = f := by
  revert f
  decide +kernel

/-- Writing a stack register with its own value changes nothing, where F's low nibble is zero. -/
theorem State.setStk_getStk {s : State} (h : s.f &&& 0x0F = 0) (r : RegStk) :
    s.setStk r (s.getStk r) = s := by
  cases r with
  | bc => simp [State.setStk, State.getStk, State.bc]
  | de => simp [State.setStk, State.getStk, State.de]
  | hl => simp [State.setStk, State.getStk, State.setHl]
  | af =>
    have hf : s.f &&& 240#8 = s.f := and_F0_of_low_zero h
    simp [State.setStk, State.getStk, State.af, hf]

@[simp] theorem State.getStk_advance (s : State) (len : Nat) (r : RegStk) :
    (s.advance len).getStk r = s.getStk r := by cases r <;> rfl

@[simp] theorem State.getStk_pushWord (s : State) (v : Word) (r : RegStk) :
    (s.pushWord v).getStk r = s.getStk r := by cases r <;> rfl

@[simp] theorem State.getStk_popped (s : State) (r : RegStk) : s.popped.getStk r = s.getStk r := by
  cases r <;> rfl

/-- POP undoes PUSH of the same register but for pc and the two bytes left below SP (R147 to R149). -/
theorem popPair_pushPair {s : State} (hm : s.mem.wf = true) (hf : s.f &&& 0x0F = 0) (hs : s.sp ≠ 0)
    (r : RegStk) :
    popPair r (pushPair r s) = (((s.pushWord (s.getStk r)).advance 1).popped).advance 1 := by
  have hpop : ((s.pushWord (s.getStk r)).advance 1).popValue =
      ((s.pushWord (s.getStk r)).advance 1).popped.getStk r := by
    rw [State.getStk_popped, State.getStk_advance, State.getStk_pushWord]
    exact State.popValue_pushWord hm (s.getStk r)
  have hf' : ((s.pushWord (s.getStk r)).advance 1).popped.f &&& 0x0F = 0 := hf
  rw [pushPair_ne hs, popPair, hpop, State.setStk_getStk hf']

/-- The two halves of the invariant. -/
theorem State.inv_iff (s : State) : s.inv = true ↔ s.f &&& 0x0F = 0 ∧ s.mem.wf = true := by
  rw [State.inv, Bool.and_eq_true, State.lowNibbleZero, beq_iff_eq]

/-- Settles O39: what remains of the two is the pushed word below SP. -/
theorem pushThenPopRestores : Obligations.PushThenPopRestores := by
  intro s r hinv hs
  obtain ⟨hf, hm⟩ := s.inv_iff.1 hinv
  refine ⟨_, _, exec_push r s, exec_pop r _, ?_⟩
  rw [popPair_pushPair hm hf hs]
  obtain ⟨hregs, -, hcontrol, hmem⟩ := (((s.frame_pushWord (s.getStk r)).advance 1).trans
    (State.frame_popped _)).advance 1
  refine ⟨hregs, rfl, ?_, Word.add_one_add_one _, hcontrol, hmem⟩
  simp

/-! The byte order of every 16-bit access (R55). -/

theorem State.toNat_readWord (s : State) (a : Word) :
    (s.mem.readWord a).toNat = 256 * (s.readByte (a + 1)).toNat + (s.readByte a).toNat := by
  rw [Nat.mul_comm]
  exact toNat_pair _ _

/-- The two bytes of a word in memory, the low one at the lower address. -/
theorem State.bytes_of_readWord {s : State} {a v : Word} (h : s.mem.readWord a = v) :
    (s.readByte a).toNat = v.toNat % 256 ∧ (s.readByte (a + 1)).toNat = v.toNat / 256 := by
  have hword := s.toNat_readWord a
  have hlow := (s.readByte a).isLt
  rw [h] at hword
  omega

/-- The bytes of a pushed word. -/
theorem State.bytes_pushWord {s : State} (hm : s.mem.wf = true) (v : Word) :
    ((s.pushWord v).readByte (s.sp - 2)).toNat = v.toNat % 256 ∧
      ((s.pushWord v).readByte (s.sp - 1)).toNat = v.toNat / 256 := by
  have h := State.bytes_of_readWord (State.popValue_pushWord hm v)
  simpa using h

/-- Two operand bytes, the first one low, are the word they spell (R57). -/
theorem pair_of_toNat {v : Word} {b1 b2 : Byte} (h : v.toNat = 256 * b2.toNat + b1.toNat) :
    v = pair b2 b1 :=
  BitVec.eq_of_toNat_eq (by rw [toNat_pair, h, Nat.mul_comm])

/-- Settles O22: every access goes through `readWord`, `writeWord` or the two stores of a push, and
each of those has the low byte at the lower address. -/
theorem wordsAreLittleEndian : Obligations.WordsAreLittleEndian := by
  intro s a v hm
  have hwrite : (s.writeWord a v).mem.readWord a = v := Memory.readWord_writeWord hm a v
  have hstore : (storeHl a s).mem.readWord a = s.hl := Memory.readWord_writeWord hm a s.hl
  have hpush := State.popValue_pushWord hm v
  obtain ⟨hlow, hhigh⟩ := State.bytes_of_readWord hwrite
  obtain ⟨hlow', hhigh'⟩ := State.bytes_of_readWord hstore
  obtain ⟨hlow'', hhigh''⟩ := State.bytes_pushWord hm v
  obtain ⟨-, -, -, hmem⟩ := s.frame_writeWord a v
  refine ⟨⟨hlow, hhigh, hwrite, hmem, s.toNat_readWord a⟩, ⟨_, rfl, hlow', hhigh', hstore⟩,
    ⟨hlow'', hhigh'', hpush, hpush⟩, fun r hs => ⟨_, exec_push r s, ?_⟩, s.toNat_readWord s.sp,
    fun r hr => ⟨_, exec_pop r s, ?_⟩, ⟨_, rfl, rfl⟩, fun b1 b2 hv => ?_⟩
  · rw [pushPair_ne hs]
    exact State.popValue_pushWord hm (s.getStk r)
  · obtain ⟨hlo, hhi, -⟩ := popPair_result hr s
    apply word_ext
    · rw [hi_getStk, hhi]
      exact (hi_pair _ _).symm
    · rw [lo_getStk, hlo]
      exact (lo_pair _ _).symm
  · obtain rfl := pair_of_toNat hv
    exact ⟨rfl, rfl, rfl, rfl, rfl, rfl, rfl, rfl, rfl, rfl, rfl, rfl, rfl, rfl, rfl, rfl, rfl⟩

end Sys2Proof.Machine
end

section
/-! PROOFS. The remaining 8-bit arithmetic (R161, R162, R168 to R176, R186 to R192): ADC, the operations
that subtract, INC and DEC of an operand position, and DAA with the decimal sums and differences it
corrects (R292). -/
namespace Sys2Proof.Machine

/-- Settles O41: each form is `aluApply`, whose result and flags for ADC are `add8` with F.C as the
carry-in. -/
theorem adcSetsResultAndFlags : Obligations.AdcSetsResultAndFlags := by
  intro i s v len hform
  obtain ⟨n, rfl, hexec⟩ := exec_of_aluForm hform
  obtain ⟨hz, hn, hh, hc⟩ := aluApply_flags .adc v n s
  obtain ⟨hres, hzero, hadd, hhalf, hcarry⟩ := add8_result s.a v (s.flag .c)
  have ha : (aluApply .adc v n s).a.toNat = (s.a.toNat + v.toNat + (s.flag .c).toNat) % 256 := by
    rw [aluApply_a]
    exact hres
  refine ⟨_, hexec, ha, ?_, hn.trans hadd, ?_, ?_, low_aluApply_arithmetic rfl v n s,
    aluApply_kept .adc v n s⟩
  · rw [hz, ha]
    exact hzero
  · rw [hh]
    exact hhalf
  · rw [hc]
    exact hcarry

/-! SUB, SBC and CP. -/

/-- `sub8` is the difference modulo 256, its borrow-in taking part in H and C (R162). -/
theorem sub8_result (a b : Byte) (cin : Bool) {res : Byte}
    (hres : (res.toNat : Int) = ((a.toNat : Int) - b.toNat - cin.toNat) % 256) :
    (sub8 a b cin).res = res ∧ ((sub8 a b cin).z = true ↔ res = 0) ∧ (sub8 a b cin).n = true ∧
      ((sub8 a b cin).h = true ↔ a.toNat % 16 < b.toNat % 16 + cin.toNat) ∧
      ((sub8 a b cin).c = true ↔ a.toNat < b.toNat + cin.toNat) := by
  have hdiff : (sub8 a b cin).res = res := by
    apply BitVec.eq_of_toNat_eq
    rw [sub8, BitVec.toNat_ofInt]
    omega
  refine ⟨hdiff, ?_, rfl, decide_eq_true_iff, decide_eq_true_iff⟩
  rw [← hdiff]
  exact beq_iff_eq

/-- The three operations subtract; SBC alone has F.C as its borrow-in (R171 to R176, R186 to R188). -/
theorem aluCompute_sub {op : AluOp} (hop : op = .sub ∨ op = .sbc ∨ op = .cp) (a v : Byte)
    (cin : Bool) : aluCompute op a v cin = sub8 a v (decide (op = .sbc) && cin) := by
  obtain rfl | rfl | rfl := hop <;> rfl

/-- Settles O42: each form is `aluApply`, whose result and flags are `sub8`; only CP stores nothing. -/
theorem subSbcCpSetResultAndBorrows : Obligations.SubSbcCpSetResultAndBorrows := by
  intro op i s v len cin res hop hform hcin hres
  obtain ⟨n, rfl, hexec⟩ := exec_of_aluForm hform
  obtain rfl : cin = (decide (op = .sbc) && s.flag .c).toNat := by
    rw [hcin]
    split_ifs with h <;> simp [h]
  have hwhole : writesWholeF op = true := by obtain rfl | rfl | rfl := hop <;> rfl
  obtain ⟨hdiff, hzero, hsub, hhalf, hborrow⟩ := sub8_result s.a v _ hres
  have ha := aluApply_a op v n s
  obtain ⟨hz, hn, hh, hc⟩ := aluApply_flags op v n s
  rw [aluCompute_sub hop] at ha hz hn hh hc
  rw [hdiff] at ha
  refine ⟨_, hexec, ha, ?_, hn.trans hsub, ?_, ?_, low_aluApply_arithmetic hwhole v n s,
    aluApply_kept op v n s⟩
  · rw [hz]
    exact hzero
  · rw [hh]
    exact hhalf
  · rw [hc]
    exact hborrow

/-! INC and DEC of an operand position. -/

@[simp] theorem State.getOperand_setFlag (s : State) (fl : Flag) (v : Bool) (o : Operand8) :
    (s.setFlag fl v).getOperand o = s.getOperand o :=
  State.getOperand_congr (s.getR8_setFlag fl v) rfl o

/-- An operand position written and Z, N and H after it: what INC and DEC of a byte both are (R189 to
R192). -/
def storeCounted (o : Operand8) (res : Byte) (n h : Bool) (s : State) : State :=
  ((((s.setOperand o res).setFlag .z (res == 0)).setFlag .n n).setFlag .h h).advance 1

theorem incOperand_eq (o : Operand8) (s : State) :
    incOperand o s = storeCounted o (s.getOperand o + 1) false (incHalf (s.getOperand o)) s := rfl

theorem decOperand_eq (o : Operand8) (s : State) :
    decOperand o s = storeCounted o (s.getOperand o - 1) true (decHalf (s.getOperand o)) s := rfl

theorem storeCounted_result (o : Operand8) (res : Byte) (n h : Bool) (s : State) :
    ((o = .memHl → s.mem.wf = true) → (storeCounted o res n h s).getOperand o = res) ∧
      ((storeCounted o res n h s).flag .z = true ↔ res = 0) ∧
      (storeCounted o res n h s).flag .n = n ∧ (storeCounted o res n h s).flag .h = h := by
  refine ⟨fun hm => ?_, ?_, ?_, ?_⟩
  · simp [storeCounted, State.getOperand_setOperand s o res hm]
  all_goals simp [storeCounted]

/-- pc is past the byte, and nothing else changes but the operand position, Z, N and H: C is kept
(R189). -/
theorem storeCounted_kept (o : Operand8) (res : Byte) (n h : Bool) (s : State) :
    (storeCounted o res n h s).pc = s.pc + 1 ∧ (storeCounted o res n h s).sp = s.sp ∧
      s.LowNibbleKept (storeCounted o res n h s) ∧
      s.Frame (storeCounted o res n h s) (destRegs o) [.z, .n, .h] (destAddrs s o) := by
  refine ⟨?_, ?_, ?_, ?_⟩
  · simp [storeCounted, State.nextPc]
  · simp [storeCounted]
  · simp [storeCounted, State.LowNibbleKept]
  · have hframe := ((((s.frame_setOperand o res).trans
      (State.frame_setFlag _ .z (res == 0))).trans (State.frame_setFlag _ .n n)).trans
        (State.frame_setFlag _ .h h)).advance 1
    simp only [List.append_nil] at hframe
    exact hframe

/-- Settles O44: both forms write the operand position once, one up or one down. -/
theorem incDecByte : Obligations.IncDecByte := by
  refine fun s o => ⟨⟨_, exec_incOp o s, ?_⟩, ⟨_, exec_decOp o s, ?_⟩⟩
  · obtain ⟨hread, hz, hn, hh⟩ := storeCounted_result o (s.getOperand o + 1) false
      (incHalf (s.getOperand o)) s
    have hres : (s.getOperand o + 1).toNat = ((s.getOperand o).toNat + 1) % 256 :=
      BitVec.toNat_add ..
    rw [incOperand_eq]
    refine ⟨fun hm => by rw [hread hm, hres], ?_, hn, ?_, storeCounted_kept ..⟩
    · rw [hz, ← BitVec.toNat_inj, hres]
      rfl
    · rw [hh]
      exact beq_iff_eq
  · obtain ⟨hread, hz, hn, hh⟩ := storeCounted_result o (s.getOperand o - 1) true
      (decHalf (s.getOperand o)) s
    have hres : (s.getOperand o - 1).toNat = ((s.getOperand o).toNat + 255) % 256 := by
      rw [Nat.add_comm]
      exact BitVec.toNat_sub ..
    rw [decOperand_eq]
    refine ⟨fun hm => by rw [hread hm, hres], ?_, hn, ?_, storeCounted_kept ..⟩
    · have hlt := (s.getOperand o).isLt
      rw [hz, ← BitVec.toNat_inj, hres]
      change _ = 0 ↔ _
      omega
    · rw [hh]
      exact beq_iff_eq

/-! DAA. -/

/-- The correction of DAA: 0x06 where `low`, 0x60 where `high` (R292). -/
def daaAdjust (low high : Bool) : Byte := (if low then 0x06 else 0x00) + (if high then 0x60 else 0x00)

theorem toNat_daaAdjust (low high : Bool) :
    (daaAdjust low high).toNat = (if low then 0x06 else 0) + (if high then 0x60 else 0) := by
  revert low high
  decide

/-- DAA subtracts the correction where N is 1, else adds it; C is set where 0x60 is used (R292). -/
theorem daaCompute_eq (a : Byte) (n h c : Bool) :
    daaCompute a n h c =
      let low := h || (!n && decide (a.toNat % 16 > 9))
      let high := c || (!n && decide (a.toNat > 0x99))
      (if n then a - daaAdjust low high else a + daaAdjust low high, high) := by
  cases n with
  | true => simp [daaCompute, daaAdjust]
  | false => rfl

theorem daaCompute_result {a : Byte} {n h c low high : Bool} {adj : Nat}
    (hlow : low = (h || (!n && decide (a.toNat % 16 > 9))))
    (hhigh : high = (c || (!n && decide (a.toNat > 0x99))))
    (hadj : adj = (if low then 0x06 else 0) + (if high then 0x60 else 0)) :
    (daaCompute a n h c).1.toNat = (if n = true then a.toNat + 256 - adj else a.toNat + adj) % 256 ∧
      (daaCompute a n h c).2 = high := by
  rw [daaCompute_eq, ← hlow, ← hhigh]
  refine ⟨?_, rfl⟩
  rw [← toNat_daaAdjust] at hadj
  subst hadj
  have hlt := (daaAdjust low high).isLt
  split_ifs
  · rw [BitVec.toNat_sub]
    omega
  · exact BitVec.toNat_add ..

theorem decimalAdjust_a (s : State) :
    (decimalAdjust s).a = (daaCompute s.a (s.flag .n) (s.flag .h) (s.flag .c)).1 := rfl

/-- Z is that of the result, H is cleared, C is the one computed, N is kept (R292). -/
theorem decimalAdjust_flags (s : State) :
    ((decimalAdjust s).flag .z = true ↔ (decimalAdjust s).a = 0) ∧
      (decimalAdjust s).flag .h = false ∧
      (decimalAdjust s).flag .c = (daaCompute s.a (s.flag .n) (s.flag .h) (s.flag .c)).2 := by
  rw [decimalAdjust_a]
  simp [decimalAdjust]

theorem decimalAdjust_kept (s : State) :
    (decimalAdjust s).pc = s.pc + 1 ∧ (decimalAdjust s).sp = s.sp ∧
      s.LowNibbleKept (decimalAdjust s) ∧ s.Frame (decimalAdjust s) [.a] [.z, .h, .c] [] :=
  ⟨rfl, rfl, by simp [decimalAdjust, State.LowNibbleKept],
    ((((s.frame_setR8 .a _).trans (State.frame_setFlag _ .z _)).trans
      (State.frame_setFlag _ .h false)).trans (State.frame_setFlag _ .c _)).advance 1⟩

/-- Settles O58: the result and the carry are `daaCompute` of A and the flags before. -/
theorem Misc.decimalAdjust : Obligations.DecimalAdjust := by
  intro s low high adj hlow hhigh hadj
  obtain ⟨hres, hcarry⟩ := daaCompute_result hlow hhigh hadj
  obtain ⟨hz, hh, hc⟩ := decimalAdjust_flags s
  exact ⟨_, rfl, hres, hz, hh, hc.trans hcarry, decimalAdjust_kept s⟩

/-- A number below 100 in two decimal digits is the number in base 16 with those digits. -/
theorem toNat_bcd {n : Nat} (h : n < 100) : (bcd n).toNat = 16 * (n / 10) + n % 10 := by
  rw [bcd, BitVec.toNat_ofNat]
  omega

/-- Its low nibble is its low digit. -/
theorem toNat_bcd_mod (n : Nat) : (bcd n).toNat % 16 = n % 10 := by
  rw [bcd, BitVec.toNat_ofNat]
  omega

/-- After an addition of two decimal numbers and a carry-in, 0x06 corrects a low digit that has gone
past 9, and 0x60 a sum that has gone past 99. -/
theorem daa_after_add {x y cin a : Nat} {h c low high : Bool} (hx : x < 100) (hy : y < 100)
    (hcin : cin ≤ 1) (ha : a = (16 * (x / 10) + x % 10 + (16 * (y / 10) + y % 10) + cin) % 256)
    (hh : h = true ↔ x % 10 + y % 10 + cin > 0x0F)
    (hc : c = true ↔ 16 * (x / 10) + x % 10 + (16 * (y / 10) + y % 10) + cin > 0xFF)
    (hlow : low = (h || decide (a % 16 > 9))) (hhigh : high = (c || decide (a > 0x99))) :
    (a + ((if low then 0x06 else 0) + (if high then 0x60 else 0))) % 256 =
        16 * ((x + y + cin) % 100 / 10) + (x + y + cin) % 100 % 10 ∧
      (high = true ↔ x + y + cin ≥ 100) := by
  have hdigits : a % 16 = (x % 10 + y % 10 + cin) % 16 := by omega
  have hlow' : low = true ↔ x % 10 + y % 10 + cin > 9 := by
    rw [hlow, Bool.or_eq_true, hh, decide_eq_true_iff]
    omega
  have hhigh' : high = true ↔ x + y + cin ≥ 100 := by
    rw [hhigh, Bool.or_eq_true, hc, decide_eq_true_iff]
    by_cases hsum : 16 * (x / 10) + x % 10 + (16 * (y / 10) + y % 10) + cin > 0xFF
    · omega
    · rw [Nat.mod_eq_of_lt (by omega)] at ha
      omega
  refine ⟨?_, hhigh'⟩
  simp only [hlow', hhigh']
  split_ifs <;> omega

/-- After a subtraction, 0x06 corrects a low digit that has borrowed, and 0x60 a difference that
has. -/
theorem daa_after_sub {x y cin a : Nat} {h c : Bool} (hx : x < 100) (hy : y < 100) (hcin : cin ≤ 1)
    (ha : a = (16 * (x / 10) + x % 10 + 512 - (16 * (y / 10) + y % 10) - cin) % 256)
    (hh : h = true ↔ x % 10 < y % 10 + cin)
    (hc : c = true ↔ 16 * (x / 10) + x % 10 < 16 * (y / 10) + y % 10 + cin) :
    (a + 256 - ((if h then 0x06 else 0) + (if c then 0x60 else 0))) % 256 =
        16 * ((x + 200 - y - cin) % 100 / 10) + (x + 200 - y - cin) % 100 % 10 ∧
      (c = true ↔ x < y + cin) := by
  have hc' : c = true ↔ x < y + cin := by
    rw [hc]
    omega
  refine ⟨?_, hc'⟩
  simp only [hh, hc']
  split_ifs <;> omega

/-- Settles O59: DAA's two corrections are those that the digits of the binary result need. -/
theorem decimalArithmeticIsRight : Obligations.DecimalArithmeticIsRight := by
  intro s x y hx hy ha
  have hxa : s.a.toNat = 16 * (x / 10) + x % 10 := by rw [ha, toNat_bcd hx]
  have hxlow : s.a.toNat % 16 = x % 10 := by rw [ha, toNat_bcd_mod]
  have hyv := toNat_bcd hy
  have hylow := toNat_bcd_mod y
  have hcin := (s.flag .c).toNat_le
  constructor
  · obtain ⟨t, ht, hta, -, htn, hth, htc, -⟩ :=
      adcSetsResultAndFlags _ s (bcd y) 2 (.inr ⟨rfl, rfl⟩)
    obtain ⟨u, hu, hua, -, -, huc, -⟩ := Misc.decimalAdjust t _ _ _ rfl rfl rfl
    rw [hxa, hyv] at hta htc
    rw [hxlow, hylow] at hth
    simp only [htn, Bool.not_false, Bool.true_and, Bool.false_eq_true, if_false] at hua huc
    obtain ⟨hdigits, hcarry⟩ := daa_after_add hx hy hcin hta hth htc rfl rfl
    refine ⟨t, u, ht, hu, BitVec.eq_of_toNat_eq ?_, huc ▸ hcarry⟩
    rw [hua, hdigits, toNat_bcd (Nat.mod_lt _ (by decide))]
  · obtain ⟨t, ht, hta, -, htn, hth, htc, -⟩ :=
      subSbcCpSetResultAndBorrows .sbc _ s (bcd y) 2 (s.flag .c).toNat
        (BitVec.ofNat 8 (s.a.toNat + 512 - (bcd y).toNat - (s.flag .c).toNat)) (.inr (.inl rfl))
        (.inr ⟨rfl, rfl⟩) rfl (by rw [BitVec.toNat_ofNat]; omega)
    obtain ⟨u, hu, hua, -, -, huc, -⟩ := Misc.decimalAdjust t _ _ _ rfl rfl rfl
    replace hta : t.a.toNat = _ := (congrArg BitVec.toNat hta).trans (BitVec.toNat_ofNat ..)
    rw [hxa, hyv] at hta htc
    rw [hxlow, hylow] at hth
    simp only [htn, Bool.not_true, Bool.false_and, Bool.or_false, if_true] at hua huc
    obtain ⟨hdigits, hcarry⟩ := daa_after_sub hx hy hcin hta hth htc
    refine ⟨t, u, ht, hu, BitVec.eq_of_toNat_eq ?_, huc ▸ hcarry⟩
    rw [hua, hdigits, toNat_bcd (Nat.mod_lt _ (by decide))]

end Sys2Proof.Machine
end

section
/-! PROOFS. The rotates, shifts and SWAP bit by bit (R215 to R235), the relative jumps and restarts (R268
to R270, R273), and the one-byte instructions on A, the flags and the control bits (R291 to R299). -/
namespace Sys2Proof.Machine

/-! Rotates, shifts and SWAP. -/

/-- A flag as a byte: its bit 0 is the flag, its other bits are 0. -/
theorem getLsbD_ofFlag (b : Bool) (k : Nat) :
    (if b then 1 else 0 : Byte).getLsbD k = (b && decide (k = 0)) := by
  cases b with
  | true => simp [BitVec.getLsbD_one]
  | false => simp

/-- Each operation of the table, bit by bit (R215). -/
theorem getLsbD_shiftCompute (op : ShiftOp) (v : Byte) (cin : Bool) {k : Nat} (hk : k < 8) :
    (shiftCompute op v cin).1.getLsbD k = shiftedBit op v cin k := by
  cases op
  all_goals
    simp only [shiftCompute, shiftedBit, BitVec.getLsbD_or, BitVec.getLsbD_and,
      BitVec.getLsbD_shiftLeft, BitVec.getLsbD_ushiftRight, getLsbD_ofFlag]
    interval_cases k <;> simp

theorem shiftCompute_out (op : ShiftOp) (v : Byte) (cin : Bool) :
    (shiftCompute op v cin).2 = shiftedOut op v := by cases op <;> rfl

/-- The result is zero exactly when every bit of the table's is. -/
theorem shiftCompute_eq_zero (op : ShiftOp) (v : Byte) (cin : Bool) :
    (shiftCompute op v cin).1 = 0 ↔ ∀ k < 8, shiftedBit op v cin k = false := by
  refine ⟨fun h k hk => ?_, fun h => BitVec.eq_of_getLsbD_eq fun k hk => ?_⟩
  · rw [← getLsbD_shiftCompute op v cin hk, h]
    exact BitVec.getLsbD_zero
  · rw [getLsbD_shiftCompute op v cin hk, h k hk]
    exact BitVec.getLsbD_zero.symm

@[simp] theorem State.getOperand_setFlags (s : State) (z n h c : Bool) (o : Operand8) :
    (s.setFlags z n h c).getOperand o = s.getOperand o :=
  State.getOperand_congr (s.getR8_setFlags z n h c) rfl o

/-- Writing the four flags changes them alone. -/
theorem State.frame_setFlags (s : State) (z n h c : Bool) :
    s.Frame (s.setFlags z n h c) [] [.z, .n, .h, .c] [] := s.frame_withF _

theorem shiftOperand_result (op : ShiftOp) (o : Operand8) (len : Nat) (s : State) :
    ((o = .memHl → s.mem.wf = true) → (shiftOperand op o len s).getOperand o =
        (shiftCompute op (s.getOperand o) (s.flag .c)).1) ∧
      ((shiftOperand op o len s).flag .z = true ↔
        (shiftCompute op (s.getOperand o) (s.flag .c)).1 = 0) ∧
      (shiftOperand op o len s).flag .n = false ∧ (shiftOperand op o len s).flag .h = false ∧
      (shiftOperand op o len s).flag .c = (shiftCompute op (s.getOperand o) (s.flag .c)).2 := by
  refine ⟨fun hm => ?_, ?_, ?_, ?_, ?_⟩
  · simp [shiftOperand, State.getOperand_setOperand s o _ hm]
  all_goals simp [shiftOperand]

theorem shiftOperand_kept (op : ShiftOp) (o : Operand8) (len : Nat) (s : State) :
    (shiftOperand op o len s).pc = s.pc + BitVec.ofNat 16 len ∧ (shiftOperand op o len s).sp = s.sp ∧
      s.LowNibbleKept (shiftOperand op o len s) ∧
      s.Frame (shiftOperand op o len s) (destRegs o) [.z, .n, .h, .c] (destAddrs s o) := by
  refine ⟨?_, ?_, ?_, ?_⟩
  · simp [shiftOperand, State.nextPc]
  · simp [shiftOperand]
  · simp [shiftOperand, State.LowNibbleKept]
  · have hframe := ((s.frame_setOperand o (shiftCompute op (s.getOperand o) (s.flag .c)).1).trans
      (State.frame_setFlags _ ((shiftCompute op (s.getOperand o) (s.flag .c)).1 == 0) false false
        (shiftCompute op (s.getOperand o) (s.flag .c)).2)).advance len
    simp only [List.append_nil] at hframe
    exact hframe

/-- The 68 forms are the one shared operation, the accumulator's short forms with length 1 (R216 to
R219). -/
theorem exec_of_shiftForm {op : ShiftOp} {o : Operand8} {i : Instr} {len : Word}
    (h : ShiftForm op o i len) (s : State) :
    ∃ n : Nat, len = BitVec.ofNat 16 n ∧ exec i s = .next (shiftOperand op o n s) := by
  obtain ⟨rfl, rfl, ⟨rfl, rfl⟩ | ⟨rfl, rfl⟩ | ⟨rfl, rfl⟩ | ⟨rfl, rfl⟩⟩ | ⟨rfl, rfl⟩ := h
  · exact ⟨1, rfl, rfl⟩
  · exact ⟨1, rfl, rfl⟩
  · exact ⟨1, rfl, rfl⟩
  · exact ⟨1, rfl, rfl⟩
  · exact ⟨2, rfl, exec_shift op o s⟩

/-- Settles O47: each form is `shiftOperand`, whose result and carry are the table's, bit by bit. -/
theorem rotatesShiftsAndSwap : Obligations.RotatesShiftsAndSwap := by
  intro op o i len s hform
  obtain ⟨n, rfl, hexec⟩ := exec_of_shiftForm hform s
  obtain ⟨hread, hz, hn, hh, hc⟩ := shiftOperand_result op o n s
  refine ⟨_, hexec, fun hm k hk => ?_, hz.trans (shiftCompute_eq_zero ..), hn, hh,
    hc.trans (shiftCompute_out ..), shiftOperand_kept op o n s⟩
  rw [hread hm, getLsbD_shiftCompute _ _ _ hk]

/-! Relative jumps and restarts. -/

/-- The target of JR: the signed displacement added to the address of the following instruction, modulo
65536 (R269). -/
theorem jumpRelative_target {pc target : Word} {e8 : Byte}
    (h : (target.toNat : Int) = ((pc.toNat : Int) + 2 +
      (if e8.toNat < 0x80 then (e8.toNat : Int) else (e8.toNat : Int) - 256)) % 65536) :
    pc + 2 + sext16 e8 = target := by
  apply BitVec.eq_of_toNat_eq
  rw [BitVec.toNat_add, BitVec.toNat_add, toNat_sext16]
  change ((pc.toNat + 2) % 65536 + _) % 65536 = _
  split_ifs at h ⊢ <;> omega

theorem exec_jrIf_iff {cc : Cond} {s : State} {p : Prop} [Decidable p] (h : s.cond cc = true ↔ p)
    (e8 : Byte) : exec (Instr.jrIf cc e8) s =
      .next { s with pc := if p then s.pc + 2 + sext16 e8 else s.pc + 2 } := by
  have hjump : ifCond cc 2 (jumpRelative e8) s =
      ifCond cc 2 (fun t => t.jump (s.pc + 2 + sext16 e8)) s := rfl
  rw [exec_jrIf, hjump, ifCond_jump, if_congr h rfl rfl]
  rfl

/-- Settles O51: each is one jump, to HL, to the target or past its own two bytes. -/
theorem relativeAndHlJumps : Obligations.RelativeAndHlJumps := by
  intro s e8 target htarget
  obtain rfl := jumpRelative_target htarget
  exact ⟨rfl, rfl, exec_jrIf_iff s.cond_nz e8, exec_jrIf_iff (cc := .z) Iff.rfl e8,
    exec_jrIf_iff s.cond_nc e8, exec_jrIf_iff (cc := .c) Iff.rfl e8⟩

/-- Settles O53: each is the shared call, to its own target and of one byte's length. -/
theorem restarts : Obligations.Restarts := by
  refine fun s y => ⟨fun hs => ⟨_, exec_rst y s, call_result hs (rstTarget y) 1⟩, fun hs => ?_⟩
  rw [exec_rst, call_zero hs]
  rfl

/-! NOP, STOP, EI, CPL, CCF and SCF. -/

/-- Settles O56: each is one update of the control bits and pc. -/
theorem nopStopEi : Obligations.NopStopEi := fun _ => ⟨rfl, rfl, fun _ => rfl, rfl⟩

theorem complementA_result (s : State) :
    (complementA s).a.toNat = 255 - s.a.toNat ∧ (complementA s).flag .n = true ∧
      (complementA s).flag .h = true ∧ (complementA s).pc = s.pc + 1 ∧ (complementA s).sp = s.sp ∧
      s.LowNibbleKept (complementA s) ∧ s.Frame (complementA s) [.a] [.n, .h] [] := by
  refine ⟨?_, by simp [complementA], by simp [complementA], rfl, rfl,
    by simp [complementA, State.LowNibbleKept], (((s.frame_setR8 .a _).trans
      (State.frame_setFlag _ .n true)).trans (State.frame_setFlag _ .h true)).advance 1⟩
  have hnot : (complementA s).a = ~~~ s.a := BitVec.xor_allOnes
  rw [hnot, BitVec.toNat_not]

/-- A frame allows a change of every flag it names, in any order. -/
theorem State.Frame.mono_flags {s t : State} {regs : List Reg8} {flags flags' : List Flag}
    {addrs : List Word} (h : s.Frame t regs flags addrs) (hsub : flags ⊆ flags') :
    s.Frame t regs flags' addrs := by
  obtain ⟨hregs, hflags, hrest⟩ := h
  exact ⟨hregs, fun fl hfl => hflags fl (mt (@hsub fl) hfl), hrest⟩

/-- CCF and SCF: C written, N and H cleared, Z kept (R294, R295). -/
def writeCarry (c : Bool) (s : State) : State :=
  (((s.setFlag .c c).setFlag .n false).setFlag .h false).advance 1

theorem complementCarry_eq (s : State) : complementCarry s = writeCarry (!s.flag .c) s := rfl

theorem setCarry_eq (s : State) : setCarry s = writeCarry true s := rfl

theorem writeCarry_result (c : Bool) (s : State) :
    (writeCarry c s).flag .c = c ∧ (writeCarry c s).flag .n = false ∧
      (writeCarry c s).flag .h = false ∧ (writeCarry c s).pc = s.pc + 1 ∧
      (writeCarry c s).sp = s.sp ∧ s.LowNibbleKept (writeCarry c s) ∧
      s.Frame (writeCarry c s) [] [.n, .h, .c] [] := by
  refine ⟨by simp [writeCarry], by simp [writeCarry], by simp [writeCarry], rfl, rfl,
    by simp [writeCarry, State.LowNibbleKept], ?_⟩
  exact ((((s.frame_setFlag .c c).trans (State.frame_setFlag _ .n false)).trans
    (State.frame_setFlag _ .h false)).advance 1).mono_flags (by decide)

/-- Settles O57: CPL is one operation, CCF and SCF are another with their own C. -/
theorem cplCcfScf : Obligations.CplCcfScf := by
  refine fun s => ⟨⟨_, rfl, complementA_result s⟩, ⟨_, rfl, ?_⟩, ⟨_, rfl, ?_⟩⟩
  · rw [complementCarry_eq]
    exact writeCarry_result (!s.flag .c) s
  · rw [setCarry_eq]
    exact writeCarry_result true s

end Sys2Proof.Machine
end

section
/-! PROOFS. The step boundary (R320 to R328): the steps that change nothing, interrupt entry whole,
and what wakes a halted core. -/
namespace Sys2Proof.Machine

/-! Steps that change nothing. -/

theorem stepWith_of_faulted (cfg : Config) {s : State} (h : s.fault ≠ none) :
    stepWith cfg s = .next s := by
  obtain ⟨f, hf⟩ := Option.ne_none_iff_exists'.1 h
  simp only [stepWith, hf]

/-- The idle step (R326). -/
theorem stepWith_of_idle {cfg : Config} {s : State} (hfault : s.fault = none)
    (hhalted : s.halted = true) (htakes : s.takesInterrupt cfg = false) :
    stepWith cfg s = .next s := by
  simp [stepWith, hfault, hhalted, htakes]

/-- With dispatch off no interrupt is taken (R328). -/
theorem State.takesInterrupt_of_dispatch_off {cfg : Config} (h : cfg.irqDispatch = false)
    (s : State) : s.takesInterrupt cfg = false := by
  simp [State.takesInterrupt, h]

theorem State.quiescent_iff (cfg : Config) (s : State) : s.quiescent cfg = true ↔
    s.fault = none ∧ s.halted = true ∧ (cfg.irqDispatch = false ∨ s.ime = false) := by
  simp [State.quiescent, State.faulted, and_assoc]

theorem State.quiescentAlone_iff (cfg : Config) (s : State) : s.quiescentAlone cfg = true ↔
    s.fault = none ∧ s.halted = true ∧ s.takesInterrupt cfg = false := by
  simp [State.quiescentAlone, State.faulted, and_assoc]

/-- External writes leave everything but memory (R63). -/
theorem State.external_eq (s : State) (ws : ExtWrites) :
    s.external ws = { s with mem := (s.external ws).mem } := by
  induction ws generalizing s with
  | nil => rfl
  | cons w ws ih => exact ih _

/-- Settles O8: none of the four states lets the step past its boundary, and external writes change
only memory, which is not what holds the quiescent state there. -/
theorem faultedAndIdleStepsChangeNothing : Obligations.FaultedAndIdleStepsChangeNothing := by
  intro cfg s
  refine ⟨stepWith_of_faulted cfg, stepWith_of_idle, fun hq ws => ?_, fun hq => ?_⟩
  · have hq' : (s.external ws).quiescent cfg = true := by
      rw [State.external_eq]
      exact hq
    obtain ⟨hfault, hhalted, hoff⟩ := (State.quiescent_iff ..).1 hq'
    have htakes : (s.external ws).takesInterrupt cfg = false :=
      hoff.elim (State.takesInterrupt_of_dispatch_off · _) (State.takesInterrupt_of_ime_off cfg)
    exact ⟨stepWith_of_idle hfault hhalted htakes, hq'⟩
  · obtain ⟨hfault, hhalted, htakes⟩ := (State.quiescentAlone_iff ..).1 hq
    exact stepWith_of_idle hfault hhalted htakes

/-- Settles O10: with no interrupt to take only HALTED decides. -/
theorem dispatchOffNeverTakesAnInterrupt : Obligations.DispatchOffNeverTakesAnInterrupt := by
  intro cfg s hoff hfault
  have htakes := State.takesInterrupt_of_dispatch_off hoff s
  exact ⟨fun hhalted => stepWith_of_idle hfault hhalted htakes,
    fun i hhalted hdec => stepWith_of_decodesAtPc ⟨hfault, htakes, hhalted⟩ hdec⟩

/-! Interrupt entry. -/

/-- `lowestBit` is the least bit set (R323). -/
theorem State.lowestBit_eq {pending : Byte} {k : Nat} (hk : k < 5)
    (hset : pending.getLsbD k = true) (hlow : ∀ j < k, pending.getLsbD j = false) :
    State.lowestBit pending = ⟨k, hk⟩ := by
  interval_cases k <;> simp only [State.lowestBit, hset, hlow, if_true, if_false, Bool.false_eq_true,
    Nat.reduceLT, Fin.reduceFinMk, Fin.isValue]

theorem State.getLsbD_pendingInterrupts (s : State) {j : Nat} (hj : j < 5) :
    s.pendingInterrupts.getLsbD j =
      ((s.readByte 0xFFFF).getLsbD j && (s.readByte 0xFF0F).getLsbD j) := by
  have hmask : (0x1F : Byte).getLsbD j = true := by interval_cases j <;> rfl
  rw [State.pendingInterrupts, BitVec.getLsbD_and, BitVec.getLsbD_and, hmask, Bool.and_true]
  rfl

theorem State.interruptVector_mem (k : Fin 5) :
    State.interruptVector k ∈ ([0x40, 0x48, 0x50, 0x58, 0x60] : List Word) := by
  revert k
  decide

/-- What interrupt entry leaves, room on the stack given: one bit of IF cleared, IME and HALTED 0, pc
pushed and at the vector (R324). -/
theorem State.interruptEntry_result {s : State} (hs : s.sp ≠ 0) :
    let k := State.lowestBit s.pendingInterrupts
    s.interruptEntry.pc = State.interruptVector k ∧ s.interruptEntry.sp = s.sp - 2 ∧
      s.interruptEntry.ime = false ∧ s.interruptEntry.halted = false ∧
      s.interruptEntry.fault = s.fault ∧ s.interruptEntry.f = s.f ∧
      s.RegsKept s.interruptEntry [] := by
  rw [State.interruptEntry_ne hs]
  exact ⟨rfl, Word.sub_one_sub_one _, rfl, rfl, rfl, rfl, fun r _ => by simp⟩

/-- The state that interrupt entry pushes pc in: the request cleared, the core awake. -/
def State.acknowledged (s : State) : State :=
  (s.clearRequest (State.lowestBit s.pendingInterrupts)).maskAndWake

theorem State.readByte_interruptEntry {s : State} (hs : s.sp ≠ 0) (a : Word) :
    s.interruptEntry.readByte a = (s.acknowledged.pushWord s.pc).readByte a := by
  rw [State.interruptEntry_ne hs]
  rfl

theorem State.wf_acknowledged {s : State} (hm : s.mem.wf = true) : s.acknowledged.mem.wf = true :=
  Memory.wf_write hm _ _

/-- The acknowledgement stores to IF alone (R324). -/
theorem State.readByte_acknowledged_ne (s : State) {a : Word} (ha : a ≠ 0xFF0F) :
    s.acknowledged.readByte a = s.readByte a := s.readByte_writeByte_ne ha _

theorem State.readByte_acknowledged_addrIF {s : State} (hm : s.mem.wf = true) :
    s.acknowledged.readByte 0xFF0F = s.readByte 0xFF0F &&&
      ~~~ bitMask ((State.lowestBit s.pendingInterrupts).castLE (by decide)) :=
  (State.readByte_writeByte s hm State.addrIF 0xFF0F _).trans (if_pos rfl)

/-- The pushed bytes of interrupt entry are those of pc, and they win where they fall on IF; elsewhere
IF has lost one bit and every other byte is kept. -/
theorem State.interruptEntry_memory {s : State} (hs : s.sp ≠ 0) (hm : s.mem.wf = true) :
    (s.interruptEntry.readByte (s.sp - 1)).toNat = s.pc.toNat / 256 ∧
      (s.interruptEntry.readByte (s.sp - 2)).toNat = s.pc.toNat % 256 ∧
      (0xFF0F ∉ [s.sp - 1, s.sp - 2] → s.interruptEntry.readByte 0xFF0F = s.readByte 0xFF0F &&&
        ~~~ bitMask ((State.lowestBit s.pendingInterrupts).castLE (by decide))) ∧
      s.MemoryKept s.interruptEntry [0xFF0F, s.sp - 1, s.sp - 2] := by
  obtain ⟨hlow, hhigh⟩ := State.bytes_pushWord (State.wf_acknowledged hm) s.pc
  refine ⟨?_, ?_, fun hif => ?_, fun a ha => ?_⟩
  · rw [State.readByte_interruptEntry hs]
    exact hhigh
  · rw [State.readByte_interruptEntry hs]
    exact hlow
  · rw [State.readByte_interruptEntry hs, State.readByte_pushWord_ne s.acknowledged s.pc hif,
      State.readByte_acknowledged_addrIF hm]
  · have hstack := List.not_mem_of_not_mem_cons ha
    rw [State.readByte_interruptEntry hs,
      State.readByte_pushWord_ne s.acknowledged s.pc hstack,
      State.readByte_acknowledged_ne s (List.ne_of_not_mem_cons ha)]

/-- Settles O9: bit `k` is the one that `lowestBit` finds, and the step is interrupt entry with it. -/
theorem interruptEntry : Obligations.InterruptEntry := by
  intro cfg s k hdispatch hfault hime hk hIE hIF hbelow
  have hset : s.pendingInterrupts.getLsbD k = true := by
    rw [State.getLsbD_pendingInterrupts s hk, hIE, hIF]
    rfl
  have hlowest : State.lowestBit s.pendingInterrupts = ⟨k, hk⟩ :=
    State.lowestBit_eq hk hset fun j hj => by
      rw [State.getLsbD_pendingInterrupts s (hj.trans hk), hbelow j hj]
  have hpending : s.pendingInterrupts ≠ 0 := by
    intro h0
    rw [h0] at hset
    exact Bool.false_ne_true (BitVec.getLsbD_zero.symm.trans hset)
  have hstep := stepWith_of_takesInterrupt (cfg := cfg) hfault
    (State.takesInterrupt_of_pending hime hdispatch hpending)
  refine ⟨fun hs => ?_, fun hs hm => ⟨_, hstep, ?_⟩⟩
  · rw [hstep, State.interruptEntry_zero hs]
    rfl
  · obtain ⟨hpc, hsp, hime', hhalted', hfault', hf, hregs⟩ := State.interruptEntry_result hs
    obtain ⟨hhigh, hlow, hIF', hmem⟩ := State.interruptEntry_memory hs hm
    rw [hlowest] at hpc hIF'
    refine ⟨?_, hsp, hime', hhalted', hfault'.trans hfault, hf, hregs, hhigh, hlow,
      fun hif j hj => ?_, hmem⟩
    · rw [hpc, State.interruptVector]
      interval_cases k <;> rfl
    · rw [hIF' hif, getLsbD_and_not_bitMask _ _ hj]
      split_ifs with hjk
      · have hjk' : j = k := hjk
        simp [hjk']
      · have hjk' : j ≠ k := hjk
        simp [hjk']

/-! Waking. -/

/-- Settles O11: of the cases of a step, only interrupt entry with room on the stack clears HALTED of
a halted core. -/
theorem haltEndsOnlyByInterruptEntry : Obligations.HaltEndsOnlyByInterruptEntry := by
  intro cfg s t hhalted hstep ht
  obtain ⟨-, rfl⟩ | ⟨hfault, htakes, rfl⟩ | ⟨-, -, -, rfl⟩ | ⟨⟨-, -, hrunning⟩, -⟩ :=
    stepWith_cases hstep
  · exact absurd (hhalted.symm.trans ht) (by decide)
  · have hs : s.sp ≠ 0 := by
      intro hs
      rw [State.interruptEntry_zero hs] at ht
      exact absurd (hhalted.symm.trans ht) (by decide)
    obtain ⟨hpc, -⟩ := State.interruptEntry_result hs
    simp only [State.takesInterrupt, Bool.and_eq_true, bne_iff_ne] at htakes
    obtain ⟨⟨hime, hdispatch⟩, hpending⟩ := htakes
    exact ⟨hdispatch, hfault, hime, hpending, hs, hpc ▸ State.interruptVector_mem _⟩
  · exact absurd (hhalted.symm.trans ht) (by decide)
  · exact absurd (hhalted.symm.trans hrunning) (by decide)

/-- Settles O25: the write is made before the step looks at IF, so the request is pending there. -/
theorem externalRequestWakesTheCore : Obligations.ExternalRequestWakesTheCore := by
  intro cfg s v hdispatch hm hfault hhalted hime hs hrequest
  have hpending : (s.writeByte 0xFF0F v).pendingInterrupts ≠ 0 := by
    have hIE : (s.writeByte 0xFF0F v).readByte 0xFFFF = s.readByte 0xFFFF :=
      s.readByte_writeByte_ne (by decide) v
    have hIF : (s.writeByte 0xFF0F v).readByte 0xFF0F = v :=
      (s.readByte_writeByte hm _ _ v).trans (if_pos rfl)
    rw [State.pendingInterrupts, State.addrIE, State.addrIF, hIE, hIF]
    exact hrequest
  have hstep := stepWith_of_takesInterrupt (cfg := cfg) (s := s.writeByte 0xFF0F v) hfault
    (State.takesInterrupt_of_pending hime hdispatch hpending)
  obtain ⟨hpc, hsp, hime', hhalted', hfault', -⟩ :=
    State.interruptEntry_result (s := s.writeByte 0xFF0F v) hs
  exact ⟨_, hstep, hhalted', hime', hfault'.trans hfault, hsp, hpc ▸ State.interruptVector_mem _⟩

/-- Settles O26: the store leaves IME, HALTED and FAULT alone, so the next step fetches at pc + 1,
where HL points: the first byte is the one stored, the two after it are as before. -/
theorem storeIsSeenByTheNextFetch : Obligations.StoreIsSeenByTheNextFetch := by
  intro s r i hm hfault hhalted hime hdec hhl hnext
  have hexec (u : State) (hf : u.fault = none) (hh : u.halted = false) (hi : u.ime = false) :
      Executes Config.default u := ⟨hf, State.takesInterrupt_of_ime_off _ hi, hh⟩
  have hstep : step s = .next (storeByte s.hl (s.getR8 r) 1 s) := by
    rw [step, stepWith_of_decodesAtPc (hexec s hfault hhalted hime) hdec, execWith_default,
      exec_ldMemReg]
  refine ⟨_, hstep, rfl, ?_⟩
  have hread (a : Word) : (storeByte s.hl (s.getR8 r) 1 s).readByte a =
      if a = s.pc + 1 then s.getR8 r else s.readByte a := by
    rw [← hhl]
    exact State.readByte_writeByte s hm s.hl a (s.getR8 r)
  have hdec' : DecodesAtPc (storeByte s.hl (s.getR8 r) 1 s) i := by
    have hpc : (storeByte s.hl (s.getR8 r) 1 s).pc = s.pc + 1 := rfl
    have hsecond : s.pc + 1 + 1 = s.pc + 2 := by bv_omega
    have hthird : s.pc + 1 + 2 = s.pc + 3 := by bv_omega
    have hne2 : s.pc + 2 ≠ s.pc + 1 := by bv_omega
    have hne3 : s.pc + 3 ≠ s.pc + 1 := by bv_omega
    rw [DecodesAtPc, hread, hread, hread, hpc, hsecond, hthird, if_pos rfl, if_neg hne2, if_neg hne3]
    exact hnext
  have hexec' := hexec (storeByte s.hl (s.getR8 r) 1 s) hfault hhalted hime
  rw [step, stepWith_of_decodesAtPc hexec' hdec', execWith_default]

end Sys2Proof.Machine
end

section
/-! PROOFS. What kinds of instructions there are (R25, R30, R31, R314): one that runs straight is one
of the shared operations below, one that transfers control or pushes is named by its family, four write a
control bit. The constructors are sorted once; who moves pc how, who writes IME and HALTED, who can
fault, and that IME is read by none, follow from what each kind does. -/
namespace Sys2Proof.Machine

/-! The state with IME changed, and the updates and views of the state that do not notice. -/

/-- `s` with IME `x` and all else as it is (R30). -/
def State.withIme (s : State) (x : Bool) : State := { s with ime := x }

@[simp] theorem State.withIme_a (s : State) (x : Bool) : (s.withIme x).a = s.a := rfl
@[simp] theorem State.withIme_sp (s : State) (x : Bool) : (s.withIme x).sp = s.sp := rfl
@[simp] theorem State.hl_withIme (s : State) (x : Bool) : (s.withIme x).hl = s.hl := rfl
@[simp] theorem State.flag_withIme (s : State) (x : Bool) (fl : Flag) :
    (s.withIme x).flag fl = s.flag fl := rfl
@[simp] theorem State.readByte_withIme (s : State) (x : Bool) (a : Word) :
    (s.withIme x).readByte a = s.readByte a := rfl
@[simp] theorem State.popValue_withIme (s : State) (x : Bool) :
    (s.withIme x).popValue = s.popValue := rfl
@[simp] theorem State.nextPc_withIme (s : State) (x : Bool) (len : Nat) :
    (s.withIme x).nextPc len = s.nextPc len := rfl
@[simp] theorem State.cond_withIme (s : State) (x : Bool) (cc : Cond) :
    (s.withIme x).cond cc = s.cond cc := by cases cc <;> rfl
@[simp] theorem State.getR16_withIme (s : State) (x : Bool) (r : Reg16) :
    (s.withIme x).getR16 r = s.getR16 r := by cases r <;> rfl
@[simp] theorem State.getStk_withIme (s : State) (x : Bool) (r : RegStk) :
    (s.withIme x).getStk r = s.getStk r := by cases r <;> rfl
@[simp] theorem State.getOperand_withIme (s : State) (x : Bool) (o : Operand8) :
    (s.withIme x).getOperand o = s.getOperand o :=
  State.getOperand_congr (by rintro (_ | _) <;> rfl) rfl o

@[simp] theorem State.setR8_withIme (s : State) (x : Bool) (r : Reg8) (v : Byte) :
    (s.withIme x).setR8 r v = (s.setR8 r v).withIme x := by cases r <;> rfl
@[simp] theorem State.setHl_withIme (s : State) (x : Bool) (v : Word) :
    (s.withIme x).setHl v = (s.setHl v).withIme x := rfl
@[simp] theorem State.setR16_withIme (s : State) (x : Bool) (r : Reg16) (v : Word) :
    (s.withIme x).setR16 r v = (s.setR16 r v).withIme x := by cases r <;> rfl
@[simp] theorem State.setStk_withIme (s : State) (x : Bool) (r : RegStk) (v : Word) :
    (s.withIme x).setStk r v = (s.setStk r v).withIme x := by cases r <;> rfl
@[simp] theorem State.setOperand_withIme (s : State) (x : Bool) (o : Operand8) (v : Byte) :
    (s.withIme x).setOperand o v = (s.setOperand o v).withIme x := by
  rcases o with (r | _)
  · exact s.setR8_withIme x r v
  · rfl
@[simp] theorem State.setFlag_withIme (s : State) (x : Bool) (fl : Flag) (v : Bool) :
    (s.withIme x).setFlag fl v = (s.setFlag fl v).withIme x := rfl
@[simp] theorem State.setFlags_withIme (s : State) (x z n h c : Bool) :
    (s.withIme x).setFlags z n h c = (s.setFlags z n h c).withIme x := rfl
@[simp] theorem State.setWholeF_withIme (s : State) (x z n h c : Bool) :
    (s.withIme x).setWholeF z n h c = (s.setWholeF z n h c).withIme x := rfl
@[simp] theorem State.writeByte_withIme (s : State) (x : Bool) (a : Word) (v : Byte) :
    (s.withIme x).writeByte a v = (s.writeByte a v).withIme x := rfl
@[simp] theorem State.writeWord_withIme (s : State) (x : Bool) (a v : Word) :
    (s.withIme x).writeWord a v = (s.writeWord a v).withIme x := rfl
@[simp] theorem State.advance_withIme (s : State) (x : Bool) (len : Nat) :
    (s.withIme x).advance len = (s.advance len).withIme x := rfl
@[simp] theorem State.jump_withIme (s : State) (x : Bool) (a : Word) :
    (s.withIme x).jump a = (s.jump a).withIme x := rfl
@[simp] theorem State.raise_withIme (s : State) (x : Bool) (f : Fault) :
    (s.withIme x).raise f = (s.raise f).withIme x := rfl
@[simp] theorem State.popped_withIme (s : State) (x : Bool) :
    (s.withIme x).popped = s.popped.withIme x := rfl
@[simp] theorem State.pushWord_withIme (s : State) (x : Bool) (v : Word) :
    (s.withIme x).pushWord v = (s.pushWord v).withIme x := rfl

/-! Instructions that run straight. -/

/-- The shared operations that only move pc past the instruction's `len` bytes. A value or an address
that the operation takes is a function of the state, and does not depend on IME. -/
inductive StraightOp (len : Nat) : (State → State) → Prop where
  | loadReg (r : Reg8) (v : State → Byte) (n : Nat) (hn : len = n)
      (hv : ∀ s x, v (s.withIme x) = v s) : StraightOp len fun s => loadReg r (v s) n s
  | storeByte (a : State → Word) (v : State → Byte) (n : Nat) (hn : len = n)
      (ha : ∀ s x, a (s.withIme x) = a s) (hv : ∀ s x, v (s.withIme x) = v s) :
      StraightOp len fun s => storeByte (a s) (v s) n s
  | storeThenHl (v : State → Word) (hn : len = 1) (hv : ∀ s x, v (s.withIme x) = v s) :
      StraightOp len fun s => storeThenHl (v s) s
  | loadThenHl (v : State → Word) (hn : len = 1) (hv : ∀ s x, v (s.withIme x) = v s) :
      StraightOp len fun s => loadThenHl (v s) s
  | loadPair (r : Reg16) (v : State → Word) (n : Nat) (hn : len = n)
      (hv : ∀ s x, v (s.withIme x) = v s) : StraightOp len fun s => loadPair r (v s) n s
  | aluApply (op : AluOp) (v : State → Byte) (n : Nat) (hn : len = n)
      (hv : ∀ s x, v (s.withIme x) = v s) : StraightOp len fun s => aluApply op (v s) n s
  | loadHlSpPlus (e8 : Byte) (hn : len = 2) : StraightOp len (loadHlSpPlus e8)
  | storeHl (a : Word) (hn : len = 3) : StraightOp len (storeHl a)
  | popPair (r : RegStk) (hn : len = 1) : StraightOp len (popPair r)
  | incOperand (o : Operand8) (hn : len = 1) : StraightOp len (incOperand o)
  | decOperand (o : Operand8) (hn : len = 1) : StraightOp len (decOperand o)
  | addHl (r : Reg16) (hn : len = 1) : StraightOp len (addHl r)
  | addSp (e8 : Byte) (hn : len = 2) : StraightOp len (addSp e8)
  | incPair (r : Reg16) (hn : len = 1) : StraightOp len (incPair r)
  | decPair (r : Reg16) (hn : len = 1) : StraightOp len (decPair r)
  | shiftOperand (op : ShiftOp) (o : Operand8) (n : Nat) (hn : len = n) :
      StraightOp len (shiftOperand op o n)
  | testBit (b : Fin 8) (o : Operand8) (hn : len = 2) : StraightOp len (testBit b o)
  | setBit (b : Fin 8) (o : Operand8) (hn : len = 2) : StraightOp len (setBit b o)
  | resetBit (b : Fin 8) (o : Operand8) (hn : len = 2) : StraightOp len (resetBit b o)
  | nop (hn : len = 1) : StraightOp len fun s => s.advance 1
  | decimalAdjust (hn : len = 1) : StraightOp len decimalAdjust
  | complementA (hn : len = 1) : StraightOp len complementA
  | complementCarry (hn : len = 1) : StraightOp len complementCarry
  | setCarry (hn : len = 1) : StraightOp len setCarry

/-- An instruction transfers control, pushes, writes a control bit, or is one of the operations that
run straight, with the length of its encoding; the lone prefix is none of these. -/
inductive InstrKind (i : Instr) : Prop where
  | straight (f : State → State) (hexec : ∀ s, exec i s = .next (f s))
      (h : StraightOp (encode i).length f)
  | transfer (h : TransfersControl i)
  | push (r : RegStk) (h : i = Instr.push r)
  | control (h : i = .di ∨ i = .ei ∨ i = .halt ∨ i = .stop)
  | lonePrefix (h : i = .prefixCb)

theorem transfersControl_jpIf (cc : Cond) (a : Word) : TransfersControl (Instr.jpIf cc a) := by
  simp [TransfersControl]

theorem transfersControl_jrIf (cc : Cond) (e8 : Byte) : TransfersControl (Instr.jrIf cc e8) := by
  simp [TransfersControl]

theorem transfersControl_callIf (cc : Cond) (a : Word) : TransfersControl (Instr.callIf cc a) := by
  simp [TransfersControl]

theorem transfersControl_retIf (cc : Cond) : TransfersControl (Instr.retIf cc) := by
  simp [TransfersControl]

theorem transfersControl_rst (y : Fin 8) : TransfersControl (Instr.rst y) := by
  simp [TransfersControl]

/-- The 501 constructors, sorted: all that are not named here run straight. -/
theorem instr_kind (i : Instr) : InstrKind i := by
  cases i
  case prefixCb => exact .lonePrefix rfl
  case di | ei | halt | stop => exact .control (by simp)
  case pushBc => exact .push .bc rfl
  case pushDe => exact .push .de rfl
  case pushHl => exact .push .hl rfl
  case pushAf => exact .push .af rfl
  case jpHl | ret | reti | jpA16 | jrE8 | callA16 => exact .transfer (by simp [TransfersControl])
  case jpNzA16 a => exact .transfer (transfersControl_jpIf .nz a)
  case jpZA16 a => exact .transfer (transfersControl_jpIf .z a)
  case jpNcA16 a => exact .transfer (transfersControl_jpIf .nc a)
  case jpCA16 a => exact .transfer (transfersControl_jpIf .c a)
  case jrNzE8 e8 => exact .transfer (transfersControl_jrIf .nz e8)
  case jrZE8 e8 => exact .transfer (transfersControl_jrIf .z e8)
  case jrNcE8 e8 => exact .transfer (transfersControl_jrIf .nc e8)
  case jrCE8 e8 => exact .transfer (transfersControl_jrIf .c e8)
  case callNzA16 a => exact .transfer (transfersControl_callIf .nz a)
  case callZA16 a => exact .transfer (transfersControl_callIf .z a)
  case callNcA16 a => exact .transfer (transfersControl_callIf .nc a)
  case callCA16 a => exact .transfer (transfersControl_callIf .c a)
  case retNz => exact .transfer (transfersControl_retIf .nz)
  case retZ => exact .transfer (transfersControl_retIf .z)
  case retNc => exact .transfer (transfersControl_retIf .nc)
  case retC => exact .transfer (transfersControl_retIf .c)
  case rst00 => exact .transfer (transfersControl_rst 0)
  case rst08 => exact .transfer (transfersControl_rst 1)
  case rst10 => exact .transfer (transfersControl_rst 2)
  case rst18 => exact .transfer (transfersControl_rst 3)
  case rst20 => exact .transfer (transfersControl_rst 4)
  case rst28 => exact .transfer (transfersControl_rst 5)
  case rst30 => exact .transfer (transfersControl_rst 6)
  case rst38 => exact .transfer (transfersControl_rst 7)
  all_goals
    refine .straight _ (fun _ => rfl) ?_
    with_reducible constructor
    all_goals intros; rfl

/-! What a straight operation does. -/

/-- It moves pc past the instruction and keeps IME, HALTED and FAULT. -/
theorem straightOp_keeps {len : Nat} {f : State → State} (h : StraightOp len f) (s : State) :
    (f s).pc = s.nextPc len ∧ s.ControlKept (f s) := by
  cases h
  all_goals subst_vars
  case aluApply op v n hv =>
    obtain ⟨hpc, -, -, -, hcontrol, -⟩ := aluApply_kept op (v s) n s
    exact ⟨hpc, hcontrol⟩
  case loadReg | loadPair | popPair | incPair | decPair =>
    simp [loadReg, loadPair, popPair, incPair, decPair, State.nextPc, State.ControlKept]
  case incOperand | decOperand | shiftOperand | setBit | resetBit =>
    simp [incOperand, decOperand, shiftOperand, setBit, resetBit, State.nextPc, State.ControlKept]
  all_goals exact ⟨rfl, rfl, rfl, rfl⟩

theorem aluApply_withIme (op : AluOp) (v : Byte) (len : Nat) (s : State) (x : Bool) :
    aluApply op v len (s.withIme x) = (aluApply op v len s).withIme x := by
  simp only [aluApply_eq, setAluFlags, State.withIme_a, State.flag_withIme, State.setR8_withIme]
  split <;> rfl

/-- It does the same whatever IME holds, and leaves IME alone. -/
theorem straightOp_withIme {len : Nat} {f : State → State} (h : StraightOp len f) (s : State)
    (x : Bool) : f (s.withIme x) = (f s).withIme x := by
  cases h
  case loadReg r v n hn hv => simp [loadReg, hv]
  case storeByte a v n hn ha hv => simp [storeByte, ha, hv]
  case storeThenHl v hn hv => simp [storeThenHl, hv]
  case loadThenHl v hn hv => simp [loadThenHl, hv]
  case loadPair r v n hn hv => simp [loadPair, hv]
  case aluApply op v n hn hv => simp [aluApply_withIme, hv]
  case popPair => simp [popPair]
  case incOperand | decOperand | setBit | resetBit | testBit | shiftOperand =>
    simp [incOperand, decOperand, setBit, resetBit, testBit, shiftOperand]
  case addHl | incPair | decPair => simp [addHl, incPair, decPair]
  all_goals rfl

/-! What a control transfer does. -/

/-- From `s` to `t` IME and HALTED stay, and FAULT does, or the push of `t` failed at SP = 0. -/
def PushChecked (s t : State) : Prop :=
  t.ime = s.ime ∧ t.halted = s.halted ∧
    (s.sp ≠ 0 ∧ t.fault = s.fault ∨ s.sp = 0 ∧ t = s.raise .stackFault)

theorem call_checked (a : Word) (len : Nat) (s : State) : PushChecked s (call a len s) := by
  by_cases hs : s.sp = 0
  · rw [call_zero hs]
    exact ⟨rfl, rfl, .inr ⟨hs, rfl⟩⟩
  · rw [call_ne hs]
    exact ⟨rfl, rfl, .inl ⟨hs, rfl⟩⟩

theorem pushPair_checked (r : RegStk) (s : State) : PushChecked s (pushPair r s) := by
  by_cases hs : s.sp = 0
  · rw [pushPair_zero hs]
    exact ⟨rfl, rfl, .inr ⟨hs, rfl⟩⟩
  · rw [pushPair_ne hs]
    exact ⟨rfl, rfl, .inl ⟨hs, rfl⟩⟩

/-- An instruction that pushes is a push with its check, whatever follows. -/
theorem exec_of_pushes {s : State} {i : Instr} (h : Pushes s i) :
    ∃ t, exec i s = .next t ∧ PushChecked s t := by
  obtain ⟨r, rfl⟩ | ⟨a, rfl⟩ | ⟨cc, a, rfl, hcc⟩ | ⟨y, rfl⟩ := h
  · exact ⟨_, exec_push r s, pushPair_checked r s⟩
  · exact ⟨_, rfl, call_checked a 3 s⟩
  · exact ⟨_, exec_callIf_taken hcc a, call_checked a 3 s⟩
  · exact ⟨_, exec_rst y s, call_checked _ 1 s⟩

/-- A transfer that does not push here keeps HALTED and FAULT, and IME but for RETI. -/
theorem exec_of_transfer {s : State} {i : Instr} (h : TransfersControl i) :
    Pushes s i ∨ ∃ t, exec i s = .next t ∧ (i ≠ .reti → t.ime = s.ime) ∧ t.halted = s.halted ∧
      t.fault = s.fault := by
  obtain rfl | rfl | rfl | ⟨a, rfl⟩ | ⟨e8, rfl⟩ | ⟨a, rfl⟩ | ⟨cc, a, rfl⟩ | ⟨cc, e8, rfl⟩ |
    ⟨cc, a, rfl⟩ | ⟨cc, rfl⟩ | ⟨y, rfl⟩ := h
  · exact .inr ⟨_, rfl, fun _ => rfl, rfl, rfl⟩
  · exact .inr ⟨_, rfl, fun _ => rfl, rfl, rfl⟩
  · exact .inr ⟨_, rfl, fun hi => absurd rfl hi, rfl, rfl⟩
  · exact .inr ⟨_, rfl, fun _ => rfl, rfl, rfl⟩
  · exact .inr ⟨_, rfl, fun _ => rfl, rfl, rfl⟩
  · exact .inl (.inr (.inl ⟨a, rfl⟩))
  · right
    rw [exec_jpIf, ifCond_jump]
    exact ⟨_, rfl, fun _ => rfl, rfl, rfl⟩
  · exact .inr ⟨_, exec_jrIf_iff (p := s.cond cc = true) Iff.rfl e8, fun _ => rfl, rfl, rfl⟩
  · cases hcc : s.cond cc with
    | true => exact .inl (.inr (.inr (.inl ⟨cc, a, rfl, hcc⟩)))
    | false => exact .inr ⟨_, exec_callIf_untaken hcc a, fun _ => rfl, rfl, rfl⟩
  · right
    cases hcc : s.cond cc with
    | true => exact ⟨_, exec_retIf_taken hcc, fun _ => rfl, rfl, rfl⟩
    | false => exact ⟨_, exec_retIf_untaken hcc, fun _ => rfl, rfl, rfl⟩
  · exact .inl (.inr (.inr (.inr ⟨y, rfl⟩)))

/-! The lone prefix is one CB-table instruction, which runs straight. -/

theorem executeCb_straight (op2 : Byte) : StraightOp 2 (executeCb op2) := by
  unfold executeCb
  match fieldX op2 with
  | 0 => exact .shiftOperand _ _ 2 rfl
  | 1 => exact .testBit _ _ rfl
  | 2 => exact .resetBit _ _ rfl
  | 3 => exact .setBit _ _ rfl

/-! Any instruction. -/

/-- Whatever an instruction does, it answers a next state. -/
theorem exec_completes (i : Instr) (s : State) : ∃ t, exec i s = .next t := by
  cases i <;> exact ⟨_, rfl⟩

theorem exec_unique {i : Instr} {s t u : State} (ht : exec i s = .next t)
    (hu : exec i s = .next u) : t = u := Host.Outcome.next.inj (ht.symm.trans hu)

/-- A step completes: at its boundary, or with the instruction it executes. -/
theorem stepWith_completes (cfg : Config) (s : State) : ∃ t, stepWith cfg s = .next t := by
  unfold stepWith executeNext
  split
  · exact ⟨_, rfl⟩
  · split_ifs
    · exact ⟨_, rfl⟩
    · exact ⟨_, rfl⟩
    · split
      · rename_i i _
        by_cases hi : i = .stop
        · exact ⟨_, hi ▸ execWith_stop cfg s⟩
        · rw [execWith_of_ne_stop cfg hi]
          exact exec_completes i s
      · exact ⟨_, rfl⟩
      · exact ⟨_, rfl⟩

/-- Settles O15: a fault is a next state (D6), and no instruction refuses. -/
theorem everyStepAndInstructionCompletes : Obligations.EveryStepAndInstructionCompletes :=
  ⟨fun cfg ws s => stepWith_completes cfg (s.external ws), exec_completes⟩

/-- An instruction that pushes here makes the stack check; every other keeps FAULT. -/
theorem pushes_or_fault_kept {i : Instr} {s t : State} (h : exec i s = .next t) :
    (Pushes s i ∧ PushChecked s t) ∨ t.fault = s.fault := by
  have hpushes (hp : Pushes s i) : PushChecked s t := by
    obtain ⟨u, hu, hchecked⟩ := exec_of_pushes hp
    exact exec_unique hu h ▸ hchecked
  cases instr_kind i with
  | straight f hexec hf =>
    obtain rfl := exec_unique (hexec s) h
    obtain ⟨-, -, -, hfault⟩ := straightOp_keeps hf s
    exact .inr hfault
  | transfer hi =>
    obtain hp | ⟨u, hu, -, -, hfault⟩ := exec_of_transfer (s := s) hi
    · exact .inl ⟨hp, hpushes hp⟩
    · exact .inr (exec_unique hu h ▸ hfault)
  | push r hi => exact .inl ⟨.inl ⟨r, hi⟩, hpushes (.inl ⟨r, hi⟩)⟩
  | control hi => obtain rfl | rfl | rfl | rfl := hi <;> cases h <;> exact .inr rfl
  | lonePrefix hi =>
    subst hi
    cases h
    obtain ⟨-, -, -, hfault⟩ := straightOp_keeps (executeCb_straight (s.readByte (s.pc + 1))) s
    exact .inr hfault

theorem pushes_ne_stop {s : State} {i : Instr} (h : Pushes s i) : i ≠ .stop := by
  obtain ⟨r, rfl⟩ | ⟨a, rfl⟩ | ⟨cc, a, rfl, -⟩ | ⟨y, rfl⟩ := h
  · cases r <;> nofun
  · nofun
  · cases cc <;> nofun
  · fin_cases y <;> nofun

/-- At SP = 0 an instruction that pushes only raises the stack fault (R314). -/
theorem execWith_of_pushes_zero (cfg : Config) {s : State} {i : Instr} (h : Pushes s i)
    (hs : s.sp = 0) : execWith cfg i s = .next (s.raise .stackFault) := by
  obtain ⟨t, ht, -, -, ⟨hne, -⟩ | ⟨-, rfl⟩⟩ := exec_of_pushes h
  · exact absurd hs hne
  · rw [execWith_of_ne_stop cfg (pushes_ne_stop h), ht]

/-- An instruction that ends in StackFault pushed at SP = 0. -/
theorem pushes_of_stackFault {cfg : Config} {i : Instr} {s t : State} (hs : s.fault = none)
    (h : execWith cfg i s = .next t) (ht : t.fault = some .stackFault) :
    s.sp = 0 ∧ Pushes s i := by
  have hne : t.fault ≠ s.fault := by rw [ht, hs]; nofun
  by_cases hi : i = .stop
  · subst hi
    cases h
    exact absurd rfl hne
  · rw [execWith_of_ne_stop cfg hi] at h
    obtain ⟨hpushes, -, -, ⟨-, hkept⟩ | ⟨hsp, -⟩⟩ | hkept := pushes_or_fault_kept h
    · exact absurd hkept hne
    · exact ⟨hsp, hpushes⟩
    · exact absurd hkept hne

/-- Settles O17: interrupt entry and the instructions that push are the only ones that check SP, and
no other part of a step raises StackFault. -/
theorem stackFaultOnlyFromPushAtZero : Obligations.StackFaultOnlyFromPushAtZero := by
  intro cfg s hs
  constructor
  · rintro ⟨t, hstep, ht⟩
    obtain ⟨hfault, -⟩ | ⟨-, htakes, rfl⟩ | ⟨-, -, -, rfl⟩ | ⟨⟨-, -, hhalted⟩, hnext⟩ :=
      stepWith_cases hstep
    · exact absurd hs hfault
    · by_cases hsp : s.sp = 0
      · exact ⟨hsp, .inl htakes⟩
      · obtain ⟨-, -, -, -, hkept, -⟩ := State.interruptEntry_result hsp
        rw [hkept, hs] at ht
        cases ht
    · rw [hs] at ht
      cases ht
    · obtain ⟨i, hdec, hexec⟩ | ⟨b, rfl⟩ := executeNext_cases hnext
      · obtain ⟨hsp, hpushes⟩ := pushes_of_stackFault hs hexec ht
        exact ⟨hsp, .inr ⟨hhalted, i, hdec, hpushes⟩⟩
      · cases ht
  · rintro ⟨hsp, hwhy⟩
    refine ⟨s.raise .stackFault, ?_, rfl⟩
    cases htakes : s.takesInterrupt cfg with
    | true => rw [stepWith_of_takesInterrupt hs htakes, State.interruptEntry_zero hsp]
    | false =>
      obtain hyes | ⟨hhalted, i, hdec, hpushes⟩ := hwhy
      · exact absurd (htakes.symm.trans hyes) Bool.false_ne_true
      · rw [stepWith_of_decodesAtPc ⟨hs, htakes, hhalted⟩ hdec,
          execWith_of_pushes_zero cfg hpushes hsp]

/-- Of the instructions that write neither control bit by name, none changes one. -/
theorem control_bits_kept {i : Instr} {s t : State} (h : exec i s = .next t) :
    (i ≠ .di → i ≠ .ei → i ≠ .reti → t.ime = s.ime) ∧
      (i ≠ .halt → i ≠ .stop → t.halted = s.halted) := by
  have hpushes (hp : Pushes s i) : t.ime = s.ime ∧ t.halted = s.halted := by
    obtain ⟨u, hu, hime, hhalted, -⟩ := exec_of_pushes hp
    exact exec_unique hu h ▸ ⟨hime, hhalted⟩
  cases instr_kind i with
  | straight f hexec hf =>
    obtain rfl := exec_unique (hexec s) h
    obtain ⟨-, hime, hhalted, -⟩ := straightOp_keeps hf s
    exact ⟨fun _ _ _ => hime, fun _ _ => hhalted⟩
  | transfer hi =>
    obtain hp | ⟨u, hu, hime, hhalted, -⟩ := exec_of_transfer (s := s) hi
    · obtain ⟨hime, hhalted⟩ := hpushes hp
      exact ⟨fun _ _ _ => hime, fun _ _ => hhalted⟩
    · obtain rfl := exec_unique hu h
      exact ⟨fun _ _ => hime, fun _ _ => hhalted⟩
  | push r hi =>
    obtain ⟨hime, hhalted⟩ := hpushes (.inl ⟨r, hi⟩)
    exact ⟨fun _ _ _ => hime, fun _ _ => hhalted⟩
  | control hi =>
    obtain rfl | rfl | rfl | rfl := hi <;> cases h <;> simp [halt, setIme, enterStop]
  | lonePrefix hi =>
    subst hi
    cases h
    obtain ⟨-, hime, hhalted, -⟩ := straightOp_keeps (executeCb_straight (s.readByte (s.pc + 1))) s
    exact ⟨fun _ _ _ => hime, fun _ _ => hhalted⟩

/-- Settles O18: DI, EI, RETI, HALT and STOP each write their bit; no other kind of
instruction does. -/
theorem whoWritesImeAndHalted : Obligations.WhoWritesImeAndHalted := by
  intro i s t h
  obtain ⟨hime, hhalted⟩ := control_bits_kept h
  refine ⟨?_, ?_, hime, ?_, hhalted⟩
  · rintro rfl
    cases h
    rfl
  · rintro (rfl | rfl) <;> cases h <;> rfl
  · rintro (rfl | rfl) <;> cases h <;> rfl

/-! IME is read by none. -/

/-- An instruction that is `f`, or `f` and then a write of IME, and `f` does not read IME. -/
theorem ime_unread {i : Instr} {f : State → State} {s : State} {x y : Bool}
    (hexec : ∀ u, exec i u = .next (f u)) (hf : f (s.withIme x) = (f s).withIme y) :
    ∃ t u : State, exec i s = .next t ∧ exec i { s with ime := x } = .next u ∧
      u = { t with ime := u.ime } :=
  ⟨f s, f (s.withIme x), hexec s, hexec _, by rw [hf]; rfl⟩

theorem push16Then_withIme {after : State → State}
    (h : ∀ s x, after (s.withIme x) = (after s).withIme x) (v : Word) (s : State) (x : Bool) :
    (s.withIme x).push16Then v after = (s.push16Then v after).withIme x := by
  unfold State.push16Then
  simp only [State.withIme_sp, State.pushWord_withIme, State.raise_withIme, h]
  split <;> rfl

theorem call_withIme (a : Word) (len : Nat) (s : State) (x : Bool) :
    call a len (s.withIme x) = (call a len s).withIme x :=
  push16Then_withIme (fun t y => t.jump_withIme y a) (s.nextPc len) s x

theorem pushPair_withIme (r : RegStk) (s : State) (x : Bool) :
    pushPair r (s.withIme x) = (pushPair r s).withIme x := by
  rw [pushPair, State.getStk_withIme]
  exact push16Then_withIme (fun t y => t.advance_withIme y 1) (s.getStk r) s x

theorem ifCond_withIme {effect : State → State} {s : State} {x : Bool}
    (h : effect (s.withIme x) = (effect s).withIme x) (cc : Cond) (len : Nat) :
    ifCond cc len effect (s.withIme x) = (ifCond cc len effect s).withIme x := by
  unfold ifCond
  rw [State.cond_withIme, h]
  split <;> rfl

/-- Settles O19: the operation that the instruction is does the same with IME changed, and neither the
stack check nor a condition asks for IME. -/
theorem noInstructionReadsIme : Obligations.NoInstructionReadsIme := by
  intro i s x
  cases instr_kind i with
  | straight f hexec hf => exact ime_unread hexec (straightOp_withIme hf s x)
  | transfer hi =>
    obtain rfl | rfl | rfl | ⟨a, rfl⟩ | ⟨e8, rfl⟩ | ⟨a, rfl⟩ | ⟨cc, a, rfl⟩ | ⟨cc, e8, rfl⟩ |
      ⟨cc, a, rfl⟩ | ⟨cc, rfl⟩ | ⟨y, rfl⟩ := hi
    · exact ⟨_, _, rfl, rfl, rfl⟩
    · exact ⟨_, _, rfl, rfl, rfl⟩
    · exact ⟨_, _, rfl, rfl, rfl⟩
    · exact ⟨_, _, rfl, rfl, rfl⟩
    · exact ⟨_, _, rfl, rfl, rfl⟩
    · exact ime_unread (fun _ => rfl) (call_withIme a 3 s x)
    · exact ime_unread (exec_jpIf cc a) (ifCond_withIme rfl cc 3)
    · exact ime_unread (exec_jrIf cc e8) (ifCond_withIme rfl cc 2)
    · exact ime_unread (exec_callIf cc a) (ifCond_withIme (call_withIme a 3 s x) cc 3)
    · exact ime_unread (exec_retIf cc) (ifCond_withIme rfl cc 1)
    · exact ime_unread (exec_rst y) (call_withIme (rstTarget y) 1 s x)
  | push r hi => exact hi ▸ ime_unread (exec_push r) (pushPair_withIme r s x)
  | control hi => obtain rfl | rfl | rfl | rfl := hi <;> exact ⟨_, _, rfl, rfl, rfl⟩
  | lonePrefix hi =>
    subst hi
    have hf := straightOp_withIme (executeCb_straight (s.readByte (s.pc + 1))) s x
    exact ⟨executeCb (s.readByte (s.pc + 1)) s, (executeCb (s.readByte (s.pc + 1)) s).withIme x, rfl,
      congrArg Host.Outcome.next hf, rfl⟩

/-! pc. -/

theorem State.toNat_nextPc (s : State) (len : Nat) :
    (s.nextPc len).toNat = (s.pc.toNat + len) % 65536 := by
  rw [State.nextPc, BitVec.toNat_add, BitVec.toNat_ofNat, Nat.add_mod_mod]

/-- Settles O20: by the kinds of instructions; those that run straight carry the length of their
encoding. -/
theorem pcAdvancesByTheLength : Obligations.PcAdvancesByTheLength := by
  intro cfg i s t hpos hwf htransfer hpush h
  refine ⟨?_, ?_⟩
  · suffices hpc : t.pc = s.nextPc (encodeWith cfg i).length by rw [hpc, State.toNat_nextPc]
    by_cases hstop : i = .stop
    · subst hstop
      cases h
      have hlen : (encodeWith cfg .stop).length = cfg.stopLen := by
        simp [encodeWith, Nat.sub_add_cancel hpos]
      rw [hlen]
      rfl
    rw [execWith_of_ne_stop cfg hstop] at h
    rw [encodeWith_of_ne_stop cfg hstop]
    cases instr_kind i with
    | straight f hexec hf =>
      obtain rfl := exec_unique (hexec s) h
      exact (straightOp_keeps hf s).1
    | transfer hi => exact absurd hi htransfer
    | push r hi =>
      subst hi
      obtain rfl := exec_unique (exec_push r s) h
      obtain ⟨-, -, hpc, -⟩ := pushPair_result (hpush r rfl) r
      rw [hpc]
      cases r <;> rfl
    | control hi => obtain rfl | rfl | rfl | rfl := hi <;> cases h <;> rfl
    | lonePrefix hi =>
      subst hi
      cases hwf
  · rintro rfl
    exact ⟨encodeWith_default i, execWith_default i s⟩
end Sys2Proof.Machine
end

section
/-! PROOFS. What a step reports and what an instruction costs (R324, R340, R365): the status follows
the latch, and the default table is read off by first byte. -/
namespace Sys2Proof.Machine

/-! What a step reports. -/

theorem statusOf_eq_ok_iff (f : Option Fault) : statusOf f = .ok ↔ f = none := by
  cases f with
  | none => exact iff_of_true rfl rfl
  | some f => cases f <;> exact iff_of_false nofun nofun

theorem stepResult_next {cfg : Config} (cyc : CycleTable) {s t : State}
    (h : stepWith cfg s = .next t) :
    stepResult cfg cyc s =
      ⟨statusOf t.fault, if t.fault = none then some (costOf cfg cyc s) else none⟩ := by
  simp only [stepResult, h]
  cases t.fault <;> rfl

/-! The default table by first byte. -/

/-- A well-formed instruction is in the CB table, or begins with another defined byte. -/
theorem cbInstr_or_encode_cons {i : Instr} (hwf : i.wellFormed = true) :
    (∃ op2, i = cbInstr op2) ∨
      ∃ op tail, encode i = op :: tail ∧ op ≠ 0xCB ∧ op ∉ undefinedBytes := by
  obtain ⟨op, tail, henc, -⟩ := length_encodeWith Config.default (by decide) hwf
  have hdec : decodeBytes op (tail[0]?.getD 0) (tail[1]?.getD 0) = .ok i :=
    decodeBytes_of_encodeWith (cfg := Config.default) hwf (m := fun k => (op :: tail)[k]?.getD 0)
      fun k b hk => by rw [← henc, hk, Option.getD_some]
  by_cases hcb : op = 0xCB
  · subst hcb
    rw [decodeBytes_cb] at hdec
    exact .inl ⟨_, (Except.ok.inj hdec).symm⟩
  · refine .inr ⟨op, tail, encodeWith_default i ▸ henc, hcb, fun hundef => ?_⟩
    rw [decodeBytes_of_undefined hundef] at hdec
    cases hdec

theorem defaultCycles_cons {i : Instr} {op : Byte} {tail : List Byte} (henc : encode i = op :: tail)
    (hop : op ≠ 0xCB) (b : Bool) :
    defaultCycles i b = (cellAt baseCycles op).getD 0 + if b then takenExtra i else 0 := by
  rw [defaultCycles, henc]
  split
  · rename_i h
    exact absurd (List.cons.inj h).1 hop
  · rename_i h
    rw [(List.cons.inj h).1]
  · rename_i h
    cases h

/-- The cells that are used hold the costs of R365. -/
theorem baseCycles_mem {op : Byte} (hcb : op ≠ 0xCB) (hundef : op ∉ undefinedBytes) :
    (cellAt baseCycles op).getD 0 ∈ [4, 8, 12, 16, 20, 24] := by
  revert op
  decide +kernel

/-- Only JP cc, CALL cc and RET cc cost more when taken. -/
theorem takenExtra_cases (i : Instr) : takenExtra i = 0 ∨ (∃ cc a, i = Instr.jpIf cc a) ∨
    (∃ cc a, i = Instr.callIf cc a) ∨ ∃ cc, i = Instr.retIf cc := by
  cases i
  case jpNzA16 a => exact .inr (.inl ⟨.nz, a, rfl⟩)
  case jpZA16 a => exact .inr (.inl ⟨.z, a, rfl⟩)
  case jpNcA16 a => exact .inr (.inl ⟨.nc, a, rfl⟩)
  case jpCA16 a => exact .inr (.inl ⟨.c, a, rfl⟩)
  case callNzA16 a => exact .inr (.inr (.inl ⟨.nz, a, rfl⟩))
  case callZA16 a => exact .inr (.inr (.inl ⟨.z, a, rfl⟩))
  case callNcA16 a => exact .inr (.inr (.inl ⟨.nc, a, rfl⟩))
  case callCA16 a => exact .inr (.inr (.inl ⟨.c, a, rfl⟩))
  case retNz => exact .inr (.inr (.inr ⟨.nz, rfl⟩))
  case retZ => exact .inr (.inr (.inr ⟨.z, rfl⟩))
  case retNc => exact .inr (.inr (.inr ⟨.nc, rfl⟩))
  case retC => exact .inr (.inr (.inr ⟨.c, rfl⟩))
  all_goals exact .inl rfl

/-! The costs by family. -/

theorem defaultCycles_jpIf (cc : Cond) (a : Word) (b : Bool) :
    defaultCycles (Instr.jpIf cc a) b = if b then 16 else 12 := by
  cases cc <;> cases b <;> rfl

theorem defaultCycles_callIf (cc : Cond) (a : Word) (b : Bool) :
    defaultCycles (Instr.callIf cc a) b = if b then 24 else 12 := by
  cases cc <;> cases b <;> rfl

theorem defaultCycles_retIf (cc : Cond) (b : Bool) :
    defaultCycles (Instr.retIf cc) b = if b then 20 else 8 := by
  cases cc <;> cases b <;> rfl

theorem defaultCycles_jrIf (cc : Cond) (e8 : Byte) (b : Bool) :
    defaultCycles (Instr.jrIf cc e8) b = 8 := by
  cases cc <;> cases b <;> rfl

theorem defaultCycles_ldRegReg (dst r : Reg8) (b : Bool) :
    defaultCycles (Instr.ldRegReg dst r) b = 4 := by
  cases dst <;> cases r <;> cases b <;> rfl

theorem defaultCycles_ldRegImm (dst : Reg8) (v : Byte) (b : Bool) :
    defaultCycles (Instr.ldRegImm dst v) b = 8 := by
  cases dst <;> cases b <;> rfl

theorem defaultCycles_alu (op : AluOp) (o : Operand8) (b : Bool) :
    defaultCycles (Instr.alu op o) b = if o = .memHl then 8 else 4 := by
  rcases o with (r | _)
  · cases op <;> cases r <;> cases b <;> rfl
  · cases op <;> cases b <;> rfl

theorem defaultCycles_aluImm (op : AluOp) (v : Byte) (b : Bool) :
    defaultCycles (Instr.aluImm op v) b = 8 := by
  cases op <;> cases b <;> rfl

/-! The CB table: the second byte is put together from the fields. -/

theorem exists_fields (x : Fin 4) (y z : Fin 8) :
    ∃ op2, fieldX op2 = x ∧ fieldY op2 = y ∧ fieldZ op2 = z :=
  ⟨BitVec.ofNat 8 (64 * x + 8 * y + z), by revert x y z; decide⟩

theorem operandOfCode_surjective : Function.Surjective operandOfCode := by
  rintro (r | _)
  · cases r
    exacts [⟨0, rfl⟩, ⟨1, rfl⟩, ⟨2, rfl⟩, ⟨3, rfl⟩, ⟨4, rfl⟩, ⟨5, rfl⟩, ⟨7, rfl⟩]
  · exact ⟨6, rfl⟩

theorem shiftOfCode_surjective : Function.Surjective shiftOfCode := by
  intro op
  cases op
  exacts [⟨0, rfl⟩, ⟨1, rfl⟩, ⟨2, rfl⟩, ⟨3, rfl⟩, ⟨4, rfl⟩, ⟨5, rfl⟩, ⟨6, rfl⟩, ⟨7, rfl⟩]

/-- The cost of the CB-table instruction `i` that the fields x, y and the operand `o` select. -/
theorem defaultCycles_of_fields {i : Instr} {o : Operand8} (x : Fin 4) (y : Fin 8) (b : Bool)
    (h : ∀ op2, fieldX op2 = x → fieldY op2 = y → operandOfCode (fieldZ op2) = o → cbInstr op2 = i) :
    defaultCycles i b = if o = .memHl then (if x = 1 then 12 else 16) else 8 := by
  obtain ⟨z, rfl⟩ := operandOfCode_surjective o
  obtain ⟨op2, hx, hy, hz⟩ := exists_fields x y z
  rw [← h op2 hx hy (congrArg operandOfCode hz), defaultCycles_cbInstr, cbCycles, hx, hz]
  fin_cases z <;> rfl

theorem defaultCycles_shift (op : ShiftOp) (o : Operand8) (b : Bool) :
    defaultCycles (Instr.shift op o) b = if o = .memHl then 16 else 8 := by
  obtain ⟨y, rfl⟩ := shiftOfCode_surjective op
  exact defaultCycles_of_fields 0 y b fun op2 hx hy ho => by simp only [cbInstr, hx, hy, ho]

theorem defaultCycles_bit (n : Fin 8) (o : Operand8) (b : Bool) :
    defaultCycles (Instr.bit n o) b = if o = .memHl then 12 else 8 :=
  defaultCycles_of_fields 1 n b fun op2 hx hy ho => by simp only [cbInstr, hx, hy, ho]

theorem defaultCycles_res (n : Fin 8) (o : Operand8) (b : Bool) :
    defaultCycles (Instr.res n o) b = if o = .memHl then 16 else 8 :=
  defaultCycles_of_fields 2 n b fun op2 hx hy ho => by simp only [cbInstr, hx, hy, ho]

theorem defaultCycles_set (n : Fin 8) (o : Operand8) (b : Bool) :
    defaultCycles (Instr.set n o) b = if o = .memHl then 16 else 8 :=
  defaultCycles_of_fields 3 n b fun op2 hx hy ho => by simp only [cbInstr, hx, hy, ho]

/-! Every instruction. -/

theorem defaultCycles_mem {i : Instr} (hwf : i.wellFormed = true) (b : Bool) :
    defaultCycles i b ∈ [4, 8, 12, 16, 20, 24] := by
  obtain ⟨op2, rfl⟩ | ⟨op, tail, henc, hcb, hundef⟩ := cbInstr_or_encode_cons hwf
  · rw [defaultCycles_cbInstr]
    exact List.Sublist.mem (cbCycles_mem op2) (by decide)
  · obtain hextra | ⟨cc, a, rfl⟩ | ⟨cc, a, rfl⟩ | ⟨cc, rfl⟩ := takenExtra_cases i
    · rw [defaultCycles_cons henc hcb, hextra, ite_self]
      exact baseCycles_mem hcb hundef
    · rw [defaultCycles_jpIf]
      cases b <;> simp
    · rw [defaultCycles_callIf]
      cases b <;> simp
    · rw [defaultCycles_retIf]
      cases b <;> simp

/-- Settles O27: the status is ok where no fault is latched, and the cost is reported just then; the
default costs are in the list since every cell of the table and the taken costs are. -/
theorem stepResultAndCycleTable : Obligations.StepResultAndCycleTable := by
  refine ⟨fun cfg cyc s t h => ?_, fun i b hwf => defaultCycles_mem hwf b,
    fun b dst r v a op sh cc n => ?_⟩
  · rw [stepResult_next cyc h, statusOf_eq_ok_iff]
    exact ⟨Iff.rfl, by simp⟩
  · exact ⟨defaultCycles_ldRegReg dst r b, defaultCycles_ldRegImm dst v b,
      defaultCycles_alu op (.reg r) b, defaultCycles_alu op .memHl b, defaultCycles_aluImm op v b,
      by cases b <;> rfl, defaultCycles_jrIf cc v b, defaultCycles_jpIf cc a b,
      defaultCycles_callIf cc a b, defaultCycles_retIf cc b,
      defaultCycles_shift sh (.reg r) b, defaultCycles_shift sh .memHl b,
      defaultCycles_bit n (.reg r) b, defaultCycles_bit n .memHl b,
      defaultCycles_set n (.reg r) b, defaultCycles_set n .memHl b,
      defaultCycles_res n (.reg r) b, defaultCycles_res n .memHl b⟩
end Sys2Proof.Machine
end
